-- ==== Sys2Proof/Word.lean ====
section
/-! DEFINITION. The two word types of the block: the 32-bit bus word (spec/20_memory.md R80) and the byte of a
host's byte-addressed memory (R81). -/

namespace Sys2Proof

/-- A register, a bus datum, a duration: 32 bits, unsigned (R9 `DUR_W`, R80). -/
abbrev Word := BitVec 32

/-- One byte lane of a stored register (R81). -/
abbrev Byte := BitVec 8

end Sys2Proof
end

