-- ==== Sys2Proof/Syntax.lean ====
section
/-! DEFINITION. The commands of the block, one constructor per row of spec/opcode_table.json (30_encoding.md R113),
and the names their operands use. -/

namespace Sys2Proof

/-- The six field kinds of R120, in the order of their codes. -/
inductive Kind where
  | packet
  | data
  | checksum
  | tag
  | beacon
  | ltarBeacon
  deriving DecidableEq, Repr

/-- CMD.CKSEL (R111): which checksum accumulator a checksum command acts on. -/
inductive CkSel where
  | tx
  | rx
  deriving DecidableEq, Repr

/-- The twelve opcodes of R113. -/
inductive Op where
  | classify
  | dec2bcd
  | bcd2dec
  | ckStart
  | ckAcc
  | ckFinal
  | ckValid
  | encField
  | encFeed
  | decField
  | asmFeed
  | asmReset
  deriving DecidableEq, Repr

/-- One command of the block. `kind` is the KIND code of the command word, kept as its three bits because the codes
6 and 7 are commands too: they raise ERR_KIND (R110, R114; log entry 7). -/
inductive Instr where
  /-- CLASSIFY, R161. -/
  | classify
  /-- DEC2BCD, R180. -/
  | dec2bcd
  /-- BCD2DEC, R181. -/
  | bcd2dec
  /-- CK_START, R201. -/
  | ckStart (sel : CkSel)
  /-- CK_ACC, R202. -/
  | ckAcc (sel : CkSel)
  /-- CK_FINAL, R203. -/
  | ckFinal (sel : CkSel)
  /-- CK_VALID, R204. -/
  | ckValid (sel : CkSel)
  /-- ENC_FIELD, R245. -/
  | encField (kind : BitVec 3)
  /-- ENC_FEED, R281. -/
  | encFeed (kind : BitVec 3)
  /-- DEC_FIELD, R260. -/
  | decField
  /-- ASM_FEED, R290. -/
  | asmFeed (kind : BitVec 3)
  /-- ASM_RESET, R300. -/
  | asmReset
  deriving DecidableEq, Repr

end Sys2Proof
end

