-- ==== Sys2Proof/WellFormed.lean ====
section
/-! DEFINITION. Which commands have legal fields (spec/30_encoding.md R114, R120): a command that uses KIND must
carry a code 0 to 5. An ill-formed command still runs; it raises ERR_KIND. -/

namespace Sys2Proof

/-- The legal KIND codes of R120: 0 to 5. -/
def kindCodeLegal (kind : BitVec 3) : Bool := decide (kind.toNat ≤ 5)

/-- "one of the commands of rule R113 with legal fields" (R114). -/
def Instr.wf : Instr → Bool
  | .classify => true
  | .dec2bcd => true
  | .bcd2dec => true
  | .ckStart _ => true
  | .ckAcc _ => true
  | .ckFinal _ => true
  | .ckValid _ => true
  | .encField kind => kindCodeLegal kind
  | .encFeed kind => kindCodeLegal kind
  | .decField => true
  | .asmFeed kind => kindCodeLegal kind
  | .asmReset => true

end Sys2Proof
end

