-- ==== Sys2Proof/Decode.lean ====
section
/-! DEFINITION. Decoding a command word (spec/30_encoding.md R110 to R114), total on every word and on every list of
bytes, rejecting by name; and the encoder, written from the same format. -/

namespace Sys2Proof

/-- Why a word is no command. The first four are the ERR_OPCODE checks of R110 in their order; `notOneWord` is a
list of bytes that is not the four lanes of one bus word (R80, R111; log entry 8). -/
inductive DecodeError where
  /-- "op not in the opcode map of R113". -/
  | reservedOp
  /-- "w[31:12] != 0". -/
  | reservedBits
  /-- "not usesKind(op) and kind != 0". -/
  | unusedKind
  /-- "not usesCksel(op) and cksel != 0". -/
  | unusedCksel
  | notOneWord
  deriving DecidableEq, Repr

/-- The opcode map of R113, read from the opcode byte. -/
def Op.ofByte (b : BitVec 8) : Option Op :=
  if b = 0x01 then some .classify
  else if b = 0x02 then some .dec2bcd
  else if b = 0x03 then some .bcd2dec
  else if b = 0x10 then some .ckStart
  else if b = 0x11 then some .ckAcc
  else if b = 0x12 then some .ckFinal
  else if b = 0x13 then some .ckValid
  else if b = 0x20 then some .encField
  else if b = 0x21 then some .encFeed
  else if b = 0x22 then some .decField
  else if b = 0x30 then some .asmFeed
  else if b = 0x31 then some .asmReset
  else none

/-- The opcode byte of an opcode (R113, column OP). -/
def Op.byte : Op → BitVec 8
  | .classify => 0x01
  | .dec2bcd => 0x02
  | .bcd2dec => 0x03
  | .ckStart => 0x10
  | .ckAcc => 0x11
  | .ckFinal => 0x12
  | .ckValid => 0x13
  | .encField => 0x20
  | .encFeed => 0x21
  | .decField => 0x22
  | .asmFeed => 0x30
  | .asmReset => 0x31

/-- `usesKind(op)` of R113: 0x20, 0x21 and 0x30 only. -/
def Op.usesKind : Op → Bool
  | .encField | .encFeed | .asmFeed => true
  | .classify | .dec2bcd | .bcd2dec | .ckStart | .ckAcc | .ckFinal | .ckValid | .decField | .asmReset => false

/-- `usesCksel(op)` of R113: 0x10 to 0x13 only. -/
def Op.usesCksel : Op → Bool
  | .ckStart | .ckAcc | .ckFinal | .ckValid => true
  | .classify | .dec2bcd | .bcd2dec | .encField | .encFeed | .decField | .asmFeed | .asmReset => false

/-- CKSEL: 0 = CK_TX, 1 = CK_RX (R111). -/
def CkSel.ofBit (b : BitVec 1) : CkSel := if b = 0 then .tx else .rx

def CkSel.bit : CkSel → BitVec 1
  | .tx => 0
  | .rx => 1

/-- The command of an opcode with its operand fields. -/
def Op.build (op : Op) (kind : BitVec 3) (sel : CkSel) : Instr :=
  match op with
  | .classify => .classify
  | .dec2bcd => .dec2bcd
  | .bcd2dec => .bcd2dec
  | .ckStart => .ckStart sel
  | .ckAcc => .ckAcc sel
  | .ckFinal => .ckFinal sel
  | .ckValid => .ckValid sel
  | .encField => .encField kind
  | .encFeed => .encFeed kind
  | .decField => .decField
  | .asmFeed => .asmFeed kind
  | .asmReset => .asmReset

/-- The fields of a command word (R111): OP [7:0], KIND [10:8], CKSEL [11], reserved [31:12]. -/
def opField (w : Word) : BitVec 8 := w.extractLsb' 0 8
def kindField (w : Word) : BitVec 3 := w.extractLsb' 8 3
def ckselField (w : Word) : BitVec 1 := w.extractLsb' 11 1
def reservedField (w : Word) : BitVec 20 := w.extractLsb' 12 20

/-- The ERR_OPCODE checks of R110, in their order. A word that passes them all is a command, whatever its KIND code;
the ERR_KIND check that follows them is the first thing a command that uses KIND does (`withKind`). -/
def decode (w : Word) : Except DecodeError Instr :=
  match Op.ofByte (opField w) with
  | none => .error .reservedOp
  | some op =>
    if reservedField w ≠ 0 then .error .reservedBits
    else if op.usesKind = false ∧ kindField w ≠ 0 then .error .unusedKind
    else if op.usesCksel = false ∧ ckselField w ≠ 0 then .error .unusedCksel
    else .ok (op.build (kindField w) (CkSel.ofBit (ckselField w)))

/-- A word from its four byte lanes, bits [7:0] at the register's address (R81). -/
def wordOfLanes (b0 b1 b2 b3 : Byte) : Word := b3 ++ b2 ++ b1 ++ b0

/-- The decoder on bytes as a host stores a command word (R81). A command is exactly one 32-bit word, with no shorter
and no longer form (R111). -/
def decodeBytes : List Byte → Except DecodeError Instr
  | [b0, b1, b2, b3] => decode (wordOfLanes b0 b1 b2 b3)
  | _ => .error .notOneWord

/-! The encoder. -/

def Instr.op : Instr → Op
  | .classify => .classify
  | .dec2bcd => .dec2bcd
  | .bcd2dec => .bcd2dec
  | .ckStart _ => .ckStart
  | .ckAcc _ => .ckAcc
  | .ckFinal _ => .ckFinal
  | .ckValid _ => .ckValid
  | .encField _ => .encField
  | .encFeed _ => .encFeed
  | .decField => .decField
  | .asmFeed _ => .asmFeed
  | .asmReset => .asmReset

/-- KIND of the command word; 0 where the command does not use it (R111). -/
def Instr.kindBits : Instr → BitVec 3
  | .encField kind | .encFeed kind | .asmFeed kind => kind
  | .classify | .dec2bcd | .bcd2dec | .ckStart _ | .ckAcc _ | .ckFinal _ | .ckValid _ | .decField | .asmReset => 0

/-- CKSEL of the command word; 0 where the command does not use it (R111). -/
def Instr.ckselBits : Instr → BitVec 1
  | .ckStart sel | .ckAcc sel | .ckFinal sel | .ckValid sel => sel.bit
  | .classify | .dec2bcd | .bcd2dec | .encField _ | .encFeed _ | .decField | .asmFeed _ | .asmReset => 0

/-- "A command word is therefore `OP | KIND << 8 | CKSEL << 11`" (R113). -/
def encode (i : Instr) : Word :=
  i.op.byte.setWidth 32 ||| (i.kindBits.setWidth 32 <<< 8) ||| (i.ckselBits.setWidth 32 <<< 11)

/-- The four byte lanes of a word, lowest address first (R81). -/
def lanesOfWord (w : Word) : List Byte :=
  [w.extractLsb' 0 8, w.extractLsb' 8 8, w.extractLsb' 16 8, w.extractLsb' 24 8]

def encodeBytes (i : Instr) : List Byte := lanesOfWord (encode i)

/-- The bytes of an opcode-table word: bit 0 is bit 0 of the first byte, at least the four lanes of one bus word,
every bit from `nbits` up being 0. -/
def tableBytes (nbits w : Nat) : List Byte :=
  (List.range (max 4 ((nbits + 7) / 8))).map fun j => BitVec.ofNat 8 ((w % 2 ^ nbits) >>> (8 * j))

/-- What the decoder reads from an opcode-table word of `nbits` bits. -/
def decodeTableWord (nbits w : Nat) : Option Instr := (decodeBytes (tableBytes nbits w)).toOption

end Sys2Proof
end

