-- ==== Sys2Proof/Config.lean ====
section
/-! DEFINITION. What an instance of the block fixes (spec/00_scope.md R9): the eleven timing parameters, the two
capacities and the two options, with the reference instance the spec names, and the one free value of the model. -/

namespace Sys2Proof

/-- What a PACKET does when it arrives inside a message (R9 `PACKET_RESTART`, 90_conflicts.md C3). -/
inductive PacketRestart where
  | drop
  | restart
  deriving DecidableEq, Repr

/-- What BCD2DEC does with a nibble above 9 (R9 `BCD2DEC_INVALID`). -/
inductive Bcd2decInvalid where
  | reject
  | arith
  deriving DecidableEq, Repr

/-- The instance parameters of R9. `DUR_W` and `CK_W` are the width of `Word`, `V` is in the classifier, and
`TX_CAP` is `txCap`; everything R9 marks OPEN is a field here. -/
structure Config where
  /-- `T_PS_M`, canonical pre-sync mark. -/
  tPsM : Word
  /-- `T_PS_S`, canonical pre-sync space. -/
  tPsS : Word
  /-- `T_HDR_TP`, canonical header mark of the TAG/PACKET family. -/
  tHdrTp : Word
  /-- `T_HDR_BC`, canonical header mark of the BEACON family. -/
  tHdrBc : Word
  /-- `T_HDR_S`, canonical header space. -/
  tHdrS : Word
  /-- `T_B1`, canonical mark of a bit 1. -/
  tB1 : Word
  /-- `T_B0`, canonical mark of a bit 0. -/
  tB0 : Word
  /-- `T_BS`, canonical inter-bit gap. -/
  tBs : Word
  /-- `G_FIELD`, end-of-field gap total of ordinary fields. -/
  gField : Word
  /-- `G_TAG`, end-of-field gap total of TAG fields. -/
  gTag : Word
  /-- `G_CKSUM`, end-of-field gap total of CHECKSUM fields. -/
  gCksum : Word
  /-- `RX_CAP`, capacity of RXBUF in pulses. -/
  rxCap : Nat
  /-- `MAX_DATA`, most DATA fields in one in-progress message. -/
  maxData : Nat
  packetRestart : PacketRestart
  bcd2decInvalid : Bcd2decInvalid
  deriving DecidableEq, Repr

/-- `TX_CAP`: 13 pulses, fixed by R9. -/
def txCap : Nat := 13

/-- REFCFG with the spec's default options (R9, R10). The spec does not claim these as the values of any device. -/
def Config.refcfg : Config where
  tPsM := 3000
  tPsS := 6000
  tHdrTp := 3000
  tHdrBc := 6000
  tHdrS := 2000
  tB1 := 2000
  tB0 := 1000
  tBs := 2000
  gField := 25000
  gTag := 56000
  gCksum := 80000
  rxCap := 512
  maxData := 32
  packetRestart := .drop
  bcd2decInvalid := .reject

/-- FREE VALUE (R41, R370, U5; log entry 4): the word RXBUF holds at bus address `addr` after the `k`-th reset.
The spec leaves it an arbitrary draw, so nothing in the model constrains it. -/
opaque Config.rxDraw : (k addr : Nat) → Word

end Sys2Proof
end

