-- ==== Sys2Proof/Machine/State.lean ====
section
/-! DEFINITION. The state of one block instance as spec/10_state.md R31 lists it, with the host's side of the bus
(R30, R32) beside it; the reasons a step can stop; and the state after reset (70_reset_and_hazards.md R370). -/

namespace Sys2Proof.Machine

/-- The error codes of STATUS.ERR that the block can produce (60_exceptions.md R330). -/
inductive ErrCode where
  | ok
  | opcode
  | kind
  | value
  | domain
  | trunc
  | presync
  | header
  | bit
  | length
  | space
  | fieldKind
  | seq
  | cksum
  | overflow
  deriving DecidableEq, Repr

/-- The two states of the decode-side assembler (R37). -/
inductive AsmState where
  | idle
  | inMessage
  deriving DecidableEq, Repr

/-- One pulse: a mark and then a space (R15, R93). -/
structure Pulse where
  mark : Word
  space : Word
  deriving DecidableEq, Repr

/-- One protocol field, "kind : 0..5, value : 0..511" (R31). -/
structure Field where
  kind : Kind
  value : BitVec 9
  deriving DecidableEq, Repr

/-- What the host can do to the block: the two bus accesses of 20_memory.md R80, and the reset input of R370, which
comes between two accesses only (R372). -/
inductive HostAction where
  /-- `MemRead(addr, width)`. -/
  | memRead (addr width : Nat)
  /-- `MemWrite(addr, width, v)`. -/
  | memWrite (addr width : Nat) (v : Word)
  /-- The reset input. -/
  | reset
  deriving DecidableEq, Repr

/-- The host accesses for which the model has no step (20_memory.md R82): "An access with no step is a host fault: the
run is stuck at that access, and the model records no effect". Every one is SAFE: the model stops where a chip may go
on. -/
inductive Fault where
  /-- Raised by the bus check on an access "of any width other than 32 bits" (R82). Safe. -/
  | accessWidth
  /-- Raised by the bus check on "an access whose address is not a multiple of 4" (R82). Safe. -/
  | misaligned
  /-- Raised by the bus check on "an access to an unmapped address" (R82, R46). Safe. -/
  | unmapped
  /-- Raised by a host write "to a register marked R" (R82, R46). Safe. -/
  | writeToReadOnly
  deriving DecidableEq, Repr

/-- The refusals of the model. -/
inductive Refusal where
  /-- Reserved for an arm of `exec` with no meaning yet; no arm uses it. Safe. -/
  | notModelled (mnemonic : String)
  /-- Raised by `step` on an instance whose parameters fail W1 to W4 or the ranges of R9: "A model refuses an
  instance whose table fails them" (R10, R231, U11). Safe. -/
  | illFormedConfiguration
  deriving DecidableEq, Repr

/-- The state of the block (R31) and of the host's side of its bus. -/
structure State where
  /-- The instance parameters (R9), which the timing-table and parameter registers report (R44, R45). No step
  changes them (log entry 3). -/
  cfg : Config
  /-- CMD, the last command word written (R43). -/
  cmd : Word
  /-- ARG0 (R33). -/
  arg0 : Word
  /-- ARG1 (R33). -/
  arg1 : Word
  /-- RES (R34). -/
  res : Word
  /-- STATUS.ERR (R35). -/
  err : ErrCode
  /-- STATUS.EMIT (R35). -/
  emit : Bool
  /-- The assembler state, STATUS.ASM (R37). -/
  asm : AsmState
  /-- CK_TX (R36). -/
  ckTx : Word
  /-- CK_RX (R36). -/
  ckRx : Word
  /-- TXBUF: `txCap` pulses (R40). -/
  txbuf : List Pulse
  /-- TXLEN (R40). -/
  txlen : Nat
  /-- RXBUF: RX_CAP pulses (R41). -/
  rxbuf : List Pulse
  /-- RXLEN (R41). -/
  rxlen : Nat
  /-- RXPTR (R42). -/
  rxptr : Nat
  /-- CUR, the in-progress message; CURLEN is its length (R38). -/
  cur : List Field
  /-- MSGOUT, the last completed message; MSGLEN is its length (R39). -/
  msgout : List Field
  /-- The host's actions still to come, the next one first (R30, R32; log entry 1). -/
  host : List HostAction
  /-- The index of the host's next access, the only program counter there is (R32). -/
  hostIndex : Nat
  /-- The values the host's reads returned, the newest first (R80, R95; log entry 11). -/
  reads : List Word
  /-- How many reset inputs came after power-up: it picks the draw RXBUF holds (R370; log entry 4). -/
  resets : Nat
  deriving DecidableEq, Repr

/-- The bus address of RXBUF[i].MARK (R46). -/
def rxMarkAddr (i : Nat) : Nat := 0x1000 + 8 * i

/-- The bus address of RXBUF[i].SPACE (R46). -/
def rxSpaceAddr (i : Nat) : Nat := 0x1004 + 8 * i

/-- RXBUF after the `k`-th reset: every word an arbitrary draw (R370). -/
def rxbufDrawn (c : Config) (k : Nat) : List Pulse :=
  (List.range c.rxCap).map fun i => ⟨Config.rxDraw k (rxMarkAddr i), Config.rxDraw k (rxSpaceAddr i)⟩

/-- The state after the `k`-th reset of an instance with parameters `c` (R370), the host having nothing to do. -/
def State.resetOf (c : Config) (k : Nat) : State where
  cfg := c
  cmd := 0
  arg0 := 0
  arg1 := 0
  res := 0
  err := .ok
  emit := false
  asm := .idle
  ckTx := 0
  ckRx := 0
  txbuf := List.replicate txCap ⟨0, 0⟩
  txlen := 0
  rxbuf := rxbufDrawn c k
  rxlen := 0
  rxptr := 0
  cur := []
  msgout := []
  host := []
  hostIndex := 0
  reads := []
  resets := k

/-- The machine right after its first reset. The spec leaves the instance open; the reset state is that of REFCFG
with the default options (log entry 2). -/
def State.reset : State := State.resetOf Config.refcfg 0

/-- The outcome of a step of this machine. -/
abbrev Result := Host.Outcome State Fault Refusal

end Sys2Proof.Machine
end

