-- ==== Sys2Proof/Machine/Operands.lean ====
section
/-! DEFINITION. The operand forms of the commands: the field-kind table (spec/30_encoding.md R120), legal values
(R121), the KIND operand (R110, R112), and field words (00_scope.md R14). -/

namespace Sys2Proof.Machine

/-- The two header families (R15, R120). -/
inductive Family where
  /-- The TAG/PACKET family. -/
  | tp
  /-- The BEACON family. -/
  | bc
  deriving DecidableEq, Repr

/-- The three end-of-field gap classes (R15, R120). -/
inductive GapClass where
  | field
  | tag
  | cksum
  deriving DecidableEq, Repr

/-! The columns of R120. -/

/-- Column "code". -/
def kindCode : Kind → BitVec 3
  | .packet => 0
  | .data => 1
  | .checksum => 2
  | .tag => 3
  | .beacon => 4
  | .ltarBeacon => 5

/-- The kind of a KIND code; 6 and 7 are reserved (R114). -/
def kindOfCode (code : BitVec 3) : Option Kind :=
  if code = 0 then some .packet
  else if code = 1 then some .data
  else if code = 2 then some .checksum
  else if code = 3 then some .tag
  else if code = 4 then some .beacon
  else if code = 5 then some .ltarBeacon
  else none

/-- Column "letter". -/
def kindLetter : Kind → Char
  | .packet => 'P'
  | .data => 'D'
  | .checksum => 'C'
  | .tag => 'T'
  | .beacon => 'Z'
  | .ltarBeacon => 'E'

/-- Column "width w". -/
def kindWidth : Kind → Nat
  | .packet => 9
  | .data => 8
  | .checksum => 9
  | .tag => 7
  | .beacon => 5
  | .ltarBeacon => 9

/-- Column "legal values", lower end. -/
def kindLow : Kind → Nat
  | .packet => 0
  | .data => 0
  | .checksum => 256
  | .tag => 0
  | .beacon => 0
  | .ltarBeacon => 0

/-- Column "legal values", upper end. -/
def kindHigh : Kind → Nat
  | .packet => 255
  | .data => 255
  | .checksum => 511
  | .tag => 127
  | .beacon => 31
  | .ltarBeacon => 511

/-- Column "header family". -/
def kindFamily : Kind → Family
  | .packet => .tp
  | .data => .tp
  | .checksum => .tp
  | .tag => .tp
  | .beacon => .bc
  | .ltarBeacon => .bc

/-- Column "gap class". -/
def kindGap : Kind → GapClass
  | .packet => .field
  | .data => .field
  | .checksum => .cksum
  | .tag => .tag
  | .beacon => .field
  | .ltarBeacon => .field

/-- Column "terminating". -/
def kindTerminating : Kind → Bool
  | .packet => false
  | .data => false
  | .checksum => true
  | .tag => true
  | .beacon => true
  | .ltarBeacon => true

/-- R121: "A field of kind k with value v is legal if and only if v is in the "legal values" column". The value is the
whole operand, never a masked one (R112). -/
def legal (k : Kind) (v : Nat) : Bool := decide (kindLow k ≤ v) && decide (v ≤ kindHigh k)

/-- The decode lookup of R125 from header family, bit count and value to kind. -/
def lookup (f : Family) (n v : Nat) : Option Kind :=
  match f with
  | .tp =>
    if n = 7 then some .tag
    else if n = 8 then some .data
    else if n = 9 then (if v < 256 then some .packet else some .checksum)
    else none
  | .bc =>
    if n = 5 then some .beacon
    else if n = 9 then some .ltarBeacon
    else none

/-- FIELDWORD (R14): bits [8:0] the value, bits [18:16] the kind code, every other bit 0. -/
def fieldWord (k : Kind) (v : Nat) : Word := BitVec.ofNat 32 (((kindCode k).toNat <<< 16) ||| v)

/-- A field of a kind with a value below 512. -/
def mkField (k : Kind) (v : Nat) : Field := ⟨k, BitVec.ofNat 9 v⟩

/-- The FIELDWORD of a field, as CUR and MSGOUT entries read (R38, R39). -/
def Field.word (f : Field) : Word := fieldWord f.kind f.value.toNat

end Sys2Proof.Machine
end

