-- ==== Sys2Proof/Machine/Flags.lean ====
section
/-! DEFINITION. STATUS, the block's only flag register (spec/10_state.md R35), and the error codes it shows
(60_exceptions.md R330). -/

namespace Sys2Proof.Machine

/-- The number of an error code (R330, column "code"). -/
def errCodeNumber : ErrCode → BitVec 8
  | .ok => 0x00
  | .opcode => 0x01
  | .kind => 0x02
  | .value => 0x03
  | .domain => 0x04
  | .trunc => 0x05
  | .presync => 0x06
  | .header => 0x07
  | .bit => 0x08
  | .length => 0x09
  | .space => 0x0A
  | .fieldKind => 0x0B
  | .seq => 0x0C
  | .cksum => 0x0D
  | .overflow => 0x0E

/-- STATUS.ASM: 0 = IDLE, 1 = IN_MESSAGE (R35). -/
def asmBit : AsmState → BitVec 1
  | .idle => 0
  | .inMessage => 1

/-- STATUS as the host reads it (R35): ERR [7:0], ASM [8], EMIT [9], and bits [31:10] read as 0. -/
def statusWord (s : State) : Word :=
  (0 : BitVec 22) ++ (BitVec.ofBool s.emit ++ (asmBit s.asm ++ errCodeNumber s.err))

/-- P_OPTIONS (R45): bit 0 = PACKET_RESTART, bit 1 = BCD2DEC_INVALID, bits [31:2] read 0. -/
def optionsWord (c : Config) : Word :=
  (match c.packetRestart with | .drop => 0#32 | .restart => 1#32) |||
    (match c.bcd2decInvalid with | .reject => 0#32 | .arith => 2#32)

end Sys2Proof.Machine
end

