-- ==== Sys2Proof/Machine/Ops.lean ====
section
/-! DEFINITION. The named operations over the state that the commands are written in: the start of a command, raising
and reporting an error, the registers, the accumulators, the transmit train and the assembler's helpers. -/

namespace Sys2Proof.Machine

/-- The pulse a sentinel is and an unused TXBUF entry reads as: both durations zero (R15, R40). -/
def zeroPulse : Pulse := ⟨0, 0⟩

/-! Command start and errors. An error is the block's only exception: "An error does not transfer control, save
state, change a mode or mask anything" (R334), and there is no return from one (R335). -/

/-- "err <- 0 ; emit <- false" at command start (R110). -/
def State.startCommand (s : State) : State := { s with err := .ok, emit := false }

/-- `raise CmdError(code)` (R13, R331): STATUS.EMIT is 0, STATUS.ERR is the code, and nothing else changes. -/
def State.raise (s : State) (code : ErrCode) : State := { s with err := code, emit := false }

/-- `report(code)` (R13, R332): sets STATUS.ERR; every other write of the command stands. -/
def State.report (s : State) (code : ErrCode) : State := { s with err := code }

/-- A command that uses KIND raises ERR_KIND on a reserved code before anything else it does (R110). -/
def withKind (code : BitVec 3) (s : State) (meaning : Kind → Result) : Result :=
  match kindOfCode code with
  | none => .next (s.raise .kind)
  | some k => meaning k

/-! Registers. -/

/-- The host's write first stores the word in CMD (R43). -/
def State.storeCmd (s : State) (w : Word) : State := { s with cmd := w }

def State.setArg0 (s : State) (v : Word) : State := { s with arg0 := v }

def State.setArg1 (s : State) (v : Word) : State := { s with arg1 := v }

def State.setRes (s : State) (v : Word) : State := { s with res := v }

/-- A host write of v to RXLEN stores min(v, RX_CAP) (R41). -/
def State.setRxlen (s : State) (v : Word) : State := { s with rxlen := min v.toNat s.cfg.rxCap }

/-- A host write of v to RXPTR stores min(v, RX_CAP) (R42). -/
def State.setRxptr (s : State) (v : Word) : State := { s with rxptr := min v.toNat s.cfg.rxCap }

/-- DEC_FIELD advances RXPTR to an index it computed (R260, R262). -/
def State.advanceRxptr (s : State) (next : Nat) : State := { s with rxptr := next }

def State.setRxMark (s : State) (i : Nat) (v : Word) : State :=
  { s with rxbuf := s.rxbuf.modify i fun p => { p with mark := v } }

def State.setRxSpace (s : State) (i : Nat) (v : Word) : State :=
  { s with rxbuf := s.rxbuf.modify i fun p => { p with space := v } }

/-! Checksum accumulators (43_checksum.md R200). -/

/-- `CK[s]`: CK_TX or CK_RX. -/
def State.ck (s : State) : CkSel → Word
  | .tx => s.ckTx
  | .rx => s.ckRx

def State.setCk (s : State) (sel : CkSel) (v : Word) : State :=
  match sel with
  | .tx => { s with ckTx := v }
  | .rx => { s with ckRx := v }

/-! The transmit train (44_pulse_codec.md R245): the whole buffer is zeroed, then the train is written. -/

def State.loadTrain (s : State) (train : List Pulse) : State :=
  { s with txbuf := train ++ List.replicate (txCap - train.length) zeroPulse, txlen := train.length }

/-! The assembler's helpers (45_assembler.md R285). -/

/-- `emit(list)`. -/
def State.emitMessage (s : State) (m : List Field) : State := { s with msgout := m, emit := true }

/-- `discard()`. -/
def State.discard (s : State) : State := { s with cur := [], asm := .idle, ckRx := 0 }

/-- `finish()`: CK_RX is kept. -/
def State.finish (s : State) : State := { s with cur := [], asm := .idle }

/-- "CUR <- m ; asm <- IN_MESSAGE". -/
def State.setCur (s : State) (m : List Field) : State := { s with cur := m, asm := .inMessage }

/-- The shape every buffer has, whatever the host does: TXBUF holds 13 pulses (R40) and RXBUF RX_CAP (R41). It is the
canonical form of the block's memory, which is these two buffers and nothing else (R80; log entry 8). -/
def Memory.wf (s : State) : Bool := decide (s.txbuf.length = txCap) && decide (s.rxbuf.length = s.cfg.rxCap)

end Sys2Proof.Machine
end

