-- ==== Sys2Proof/Machine/Classifier.lean ====
section
/-! DEFINITION. The tolerance classifier (spec/41_classifier.md): the classification function and CLASSIFY. -/

namespace Sys2Proof.Machine

/-- `classify(obs, can)` of R160, exact on integers: `5*obs >= 4*can and 5*obs <= 6*can`. -/
def classify (obs can : Word) : Bool :=
  decide (4 * can.toNat ≤ 5 * obs.toNat) && decide (5 * obs.toNat ≤ 6 * can.toNat)

/-- The truth value as a 32-bit result. -/
def boolWord (b : Bool) : Word := if b then 1 else 0

/-- CLASSIFY (R161). -/
def execClassify (s : State) : Result :=
  .next (s.startCommand.setRes (boolWord (classify s.arg0 s.arg1)))

end Sys2Proof.Machine
end

