-- ==== Sys2Proof/Machine/Checksum.lean ====
section
/-! DEFINITION. The checksum accumulator (spec/43_checksum.md): the four operations of R200 and the four direct
commands. -/

namespace Sys2Proof.Machine

/-- `ckStart(A, p)`: the new total. -/
def ckStart (p : Word) : Word := p

/-- `ckAcc(A, d)`: the new total, mod 2^32. -/
def ckAcc (a d : Word) : Word := a + d

/-- The total that `ckFinal(A)` leaves: A mod 256. -/
def ckReduced (a : Word) : Word := a % 256

/-- The result of `ckFinal(A)`: (A mod 256) | 256. -/
def ckResult (a : Word) : Word := ckReduced a ||| 256

/-- `ckValid(A, c)`: only bit 8 of c is masked, and A is unchanged. -/
def ckValid (a c : Word) : Bool := (c &&& 0xFFFFFEFF) == a % 256

/-- CK_START (R201). -/
def execCkStart (sel : CkSel) (s : State) : Result :=
  .next (s.startCommand.setCk sel (ckStart s.arg0))

/-- CK_ACC (R202). -/
def execCkAcc (sel : CkSel) (s : State) : Result :=
  .next (s.startCommand.setCk sel (ckAcc (s.ck sel) s.arg0))

/-- CK_FINAL (R203). -/
def execCkFinal (sel : CkSel) (s : State) : Result :=
  .next ((s.startCommand.setCk sel (ckReduced (s.ck sel))).setRes (ckResult (s.ck sel)))

/-- CK_VALID (R204). -/
def execCkValid (sel : CkSel) (s : State) : Result :=
  .next (s.startCommand.setRes (boolWord (ckValid (s.ck sel) s.arg0)))

end Sys2Proof.Machine
end

