-- ==== Sys2Proof/Machine/TimingTable.lean ====
section
/-! DEFINITION. The timing table (spec/44_pulse_codec.md section 1, 30_encoding.md R120): the durations each family and
gap class selects, and which instances are well formed (R9, R231). -/

namespace Sys2Proof.Machine

/-- `hdr(f)` (R120). -/
def hdr (c : Config) : Family → Word
  | .tp => c.tHdrTp
  | .bc => c.tHdrBc

/-- `gap(c)` (R120). -/
def gapTotal (c : Config) : GapClass → Word
  | .field => c.gField
  | .tag => c.gTag
  | .cksum => c.gCksum

/-- `gm(c) = floor(G / 2)` (R230). -/
def gapMark (c : Config) (g : GapClass) : Word := gapTotal c g / 2

/-- `gs(c) = G - floor(G / 2)` (R230). -/
def gapSpace (c : Config) (g : GapClass) : Word := gapTotal c g - gapMark c g

/-- The least integer that classifies against a canonical value: ceil(4*can/5) (R160). -/
def windowLow (can : Word) : Nat := (4 * can.toNat + 4) / 5

/-- The greatest integer that classifies against a canonical value: floor(6*can/5) (R160). -/
def windowHigh (can : Word) : Nat := 6 * can.toNat / 5

/-- Two canonical values overlap "if some integer d has classify(d, a) and classify(d, b)" (R231), decided by their
windows (log entry 9). -/
def overlaps (a b : Word) : Bool :=
  decide (max (windowLow a) (windowLow b) ≤ min (windowHigh a) (windowHigh b))

/-- W1 of R231. -/
def timingNonzero (c : Config) : Bool :=
  decide (c.tPsM ≠ 0 ∧ c.tPsS ≠ 0 ∧ c.tHdrTp ≠ 0 ∧ c.tHdrBc ≠ 0 ∧ c.tHdrS ≠ 0 ∧ c.tB1 ≠ 0 ∧ c.tB0 ≠ 0 ∧ c.tBs ≠ 0 ∧
    2 ≤ c.gField.toNat ∧ 2 ≤ c.gTag.toNat ∧ 2 ≤ c.gCksum.toNat)

/-- W4 of R231 for one gap class. -/
def gapApart (c : Config) (g : GapClass) : Bool :=
  decide (overlaps (gapMark c g) c.tB1 = false ∧ overlaps (gapMark c g) c.tB0 = false)

/-- W1 to W4 of R231. -/
def timingWf (c : Config) : Bool :=
  decide (timingNonzero c = true ∧ overlaps c.tHdrTp c.tHdrBc = false ∧ overlaps c.tB1 c.tB0 = false ∧
    gapApart c .field = true ∧ gapApart c .tag = true ∧ gapApart c .cksum = true)

/-- A well-formed instance: W1 to W4, RX_CAP in 13 to 512 and MAX_DATA in 9 to 62 (R9, R10; log entry 6). -/
def configWf (c : Config) : Bool :=
  decide (timingWf c = true ∧ 13 ≤ c.rxCap ∧ c.rxCap ≤ 512 ∧ 9 ≤ c.maxData ∧ c.maxData ≤ 62)

end Sys2Proof.Machine
end

