-- ==== Sys2Proof/Machine/Codec.lean ====
section
/-! DEFINITION. The pulse codec (spec/44_pulse_codec.md): encoding a field and ENC_FIELD, decoding a field and
DEC_FIELD. -/

namespace Sys2Proof.Machine

/-! Encode (R240). -/

/-- The pulse of one bit: mark T_B1 or T_B0, space T_BS. -/
def bitPulse (c : Config) (b : Bool) : Pulse := ⟨if b then c.tB1 else c.tB0, c.tBs⟩

/-- The bit pulses of a value of width w, most significant first (R92). -/
def bitPulses (c : Config) (w v : Nat) : List Pulse :=
  (List.range w).map fun j => bitPulse c (v.testBit (w - 1 - j))

/-- `encodeField(k, v)` of R240. -/
def encodeField (c : Config) (k : Kind) (v : Nat) : List Pulse :=
  [⟨c.tPsM, c.tPsS⟩] ++ [⟨hdr c (kindFamily k), c.tHdrS⟩] ++ bitPulses c (kindWidth k) v ++
    [⟨gapMark c (kindGap k), gapSpace c (kindGap k)⟩] ++
    (if kindTerminating k then [zeroPulse] else [])

/-- A message on the air: "the concatenation, in field order, of the trains of its fields" (R94). -/
def messageTrain (c : Config) (m : List (Kind × Nat)) : List Pulse := m.flatMap fun f => encodeField c f.1 f.2

/-- The on-air length of a train, "the sum of its marks and spaces" (R391); no command reads it. -/
def onAirTicks (train : List Pulse) : Nat := (train.map fun p => p.mark.toNat + p.space.toNat).sum

/-- ENC_FIELD (R245). -/
def execEncField (code : BitVec 3) (s : State) : Result :=
  withKind code s fun k =>
    if legal k s.arg0.toNat then .next (s.startCommand.loadTrain (encodeField s.cfg k s.arg0.toNat))
    else .next (s.raise .value)

/-! Decode (R250 to R254). -/

/-- `isSentinel(q)` of R250. -/
def isSentinel (q : Pulse) : Bool := decide (q.mark = 0) && decide (q.space = 0)

/-- One gap class of `isGap(q)`. -/
def isGapOf (c : Config) (q : Pulse) (g : GapClass) : Bool :=
  classify q.mark (gapMark c g) && classify q.space (gapSpace c g)

/-- `isGap(q)` of R250. -/
def isGap (c : Config) (q : Pulse) : Bool := isGapOf c q .field || isGapOf c q .tag || isGapOf c q .cksum

/-- The pre-sync test of R252 step 1. -/
def isPresync (c : Config) (q : Pulse) : Bool := classify q.mark c.tPsM && classify q.space c.tPsS

/-- The header family a pulse's mark selects (R252 step 2); its space is not checked (R254). -/
def headerFamily (c : Config) (q : Pulse) : Option Family :=
  if classify q.mark c.tHdrTp then some .tp
  else if classify q.mark c.tHdrBc then some .bc
  else none

/-- The bit a pulse's mark stands for (R252 step 3). -/
def bitOf (c : Config) (q : Pulse) : Option Nat :=
  if classify q.mark c.tB1 then some 1
  else if classify q.mark c.tB0 then some 0
  else none

/-- Whether the next pulse is there and is a sentinel. -/
def startsWithSentinel : List Pulse → Bool
  | [] => false
  | q :: _ => isSentinel q

/-- What the loop of R252 leaves: the index after the terminator, the value, the bit count and the record of
space mismatches. -/
structure BitRun where
  next : Nat
  value : Nat
  count : Nat
  spaceFail : Bool
  deriving DecidableEq, Repr

/-- The loop of R252 step 3. `qs` are the pulses from index `i` up to RXLEN. -/
def decodeBits (c : Config) (rxlen : Nat) : List Pulse → (i v n : Nat) → Bool → Except ErrCode BitRun
  | [], _, v, n, spaceFail => .ok ⟨rxlen, v, n, spaceFail⟩
  | q :: qs, i, v, n, spaceFail =>
    if isSentinel q then .ok ⟨i + 1, v, n, spaceFail⟩
    else if isGap c q then .ok ⟨if startsWithSentinel qs then i + 2 else i + 1, v, n, spaceFail⟩
    else if n = 9 then .error .length
    else
      match bitOf c q with
      | none => .error .bit
      | some b => decodeBits c rxlen qs (i + 1) ((v <<< 1) ||| b) (n + 1) (spaceFail || !classify q.space c.tBs)

/-- The `Ok(k, v, next)` of R252. -/
structure Decoded where
  kind : Kind
  value : Nat
  next : Nat
  deriving DecidableEq, Repr

/-- Steps 5 and 4 of R252, in the order it gives them. -/
def acceptField (f : Family) (r : BitRun) : Except ErrCode Decoded :=
  if r.spaceFail then .error .space
  else
    match lookup f r.count r.value with
    | none => .error .fieldKind
    | some k => .ok ⟨k, r.value, r.next⟩

/-- `decodeField(s)` of R252 on the pulses RX[s .. RXLEN-1]. -/
def decodeField (c : Config) (rx : List Pulse) (rxlen start : Nat) : Except ErrCode Decoded :=
  if start + 2 > rxlen then .error .trunc
  else
    match (rx.take rxlen).drop start with
    | p :: h :: qs =>
      if isPresync c p then
        match headerFamily c h with
        | none => .error .header
        | some f =>
          match decodeBits c rxlen qs (start + 2) 0 0 false with
          | .error code => .error code
          | .ok r => acceptField f r
      else .error .presync
    | _ => .error .trunc

/-- DEC_FIELD (R260). -/
def execDecField (s : State) : Result :=
  match decodeField s.cfg s.rxbuf s.rxlen s.rxptr with
  | .error code => .next (s.raise code)
  | .ok d => .next ((s.startCommand.setRes (fieldWord d.kind d.value)).advanceRxptr d.next)

end Sys2Proof.Machine
end

