-- ==== Sys2Proof/Machine/Assembler.lean ====
section
/-! DEFINITION. The message-frame assembler (spec/45_assembler.md): ENC_FEED, ASM_FEED and ASM_RESET. -/

namespace Sys2Proof.Machine

/-! Encode side (R281). -/

/-- The value ENC_FEED encodes: ARG0, or the finalized total for a CHECKSUM, "computed, not taken literally". -/
def encFeedValue (k : Kind) (s : State) : Nat :=
  match k with
  | .checksum => (ckResult s.ckTx).toNat
  | .packet | .data | .tag | .beacon | .ltarBeacon => s.arg0.toNat

/-- CK_TX after ENC_FEED of a field of kind k. -/
def encFeedTotal (k : Kind) (s : State) : Word :=
  match k with
  | .checksum => ckReduced s.ckTx
  | .packet => ckStart s.arg0
  | .data => ckAcc s.ckTx s.arg0
  | .tag | .beacon | .ltarBeacon => s.ckTx

/-- Whether ENC_FEED takes its operand: ARG0 is checked for every kind but CHECKSUM, which ignores it (R121, R281). -/
def encFeedTakes (k : Kind) (s : State) : Bool :=
  match k with
  | .checksum => true
  | .packet | .data | .tag | .beacon | .ltarBeacon => legal k s.arg0.toNat

/-- ENC_FEED (R281). -/
def execEncFeed (code : BitVec 3) (s : State) : Result :=
  withKind code s fun k =>
    if encFeedTakes k s then
      .next (((s.startCommand.setCk .tx (encFeedTotal k s)).loadTrain (encodeField s.cfg k (encFeedValue k s))).setRes
        (fieldWord k (encFeedValue k s)))
    else .next (s.raise .value)

/-! Decode side (R290). -/

/-- The transition of ASM_FEED on a legal field, from a state in which the command has started (R290). -/
def asmTransition (k : Kind) (v : Word) (s : State) : State :=
  match s.asm, k with
  | .idle, .packet => (s.setCk .rx (ckStart v)).setCur [mkField .packet v.toNat]
  | .idle, .data => s.discard.report .seq
  | .idle, .checksum => s.discard.report .seq
  | .idle, .tag => s.emitMessage [mkField .tag v.toNat]
  | .idle, .beacon => s.emitMessage [mkField .beacon v.toNat]
  | .idle, .ltarBeacon => s.emitMessage [mkField .ltarBeacon v.toNat]
  | .inMessage, .data =>
    if s.cur.length = s.cfg.maxData + 1 then s.discard.report .overflow
    else (s.setCk .rx (ckAcc s.ckRx v)).setCur (s.cur ++ [mkField .data v.toNat])
  | .inMessage, .checksum =>
    if ckValid s.ckRx v then (s.emitMessage (s.cur ++ [mkField .checksum v.toNat])).finish
    else s.discard.report .cksum
  | .inMessage, .packet =>
    match s.cfg.packetRestart with
    | .drop => s.discard.report .seq
    | .restart => ((s.discard.setCk .rx (ckStart v)).setCur [mkField .packet v.toNat]).report .seq
  | .inMessage, .tag => s.discard.report .seq
  | .inMessage, .beacon => s.discard.report .seq
  | .inMessage, .ltarBeacon => s.discard.report .seq

/-- ASM_FEED (R290). -/
def execAsmFeed (code : BitVec 3) (s : State) : Result :=
  withKind code s fun k =>
    if legal k s.arg0.toNat then .next (asmTransition k s.arg0 s.startCommand)
    else .next (s.raise .value)

/-- ASM_RESET (R300). -/
def execAsmReset (s : State) : Result := .next s.startCommand.discard

end Sys2Proof.Machine
end

