-- ==== Sys2Proof/Machine/Bcd.lean ====
section
/-! DEFINITION. The BCD converter (spec/42_bcd.md): DEC2BCD and BCD2DEC. -/

namespace Sys2Proof.Machine

/-- `decToBCD` of R180, none where it raises ERR_DOMAIN. -/
def decToBcd (n : Nat) : Option Nat :=
  if n = 100 then some 0xFF
  else if n ≤ 99 then some (((n / 10) <<< 4) ||| (n % 10))
  else none

/-- `bcdToDec` of R181 under an instance's BCD2DEC_INVALID, none where it raises ERR_DOMAIN. -/
def bcdToDec (invalid : Bcd2decInvalid) (b : Nat) : Option Nat :=
  if b > 0xFF then none
  else if b = 0xFF then some 0xFF
  else
    let hi := b >>> 4
    let lo := b % 16
    if hi > 9 ∨ lo > 9 then
      match invalid with
      | .reject => none
      | .arith => some (hi * 10 + lo)
    else some (hi * 10 + lo)

/-- The end both commands share: a result goes to RES, no result raises ERR_DOMAIN. -/
def finishConversion (s : State) : Option Nat → Result
  | some r => .next (s.startCommand.setRes (BitVec.ofNat 32 r))
  | none => .next (s.raise .domain)

/-- DEC2BCD (R180). -/
def execDec2bcd (s : State) : Result := finishConversion s (decToBcd s.arg0.toNat)

/-- BCD2DEC (R181). -/
def execBcd2dec (s : State) : Result := finishConversion s (bcdToDec s.cfg.bcd2decInvalid s.arg0.toNat)

end Sys2Proof.Machine
end

