-- ==== Sys2Proof/Machine/Dispatch.lean ====
section
/-! DEFINITION. One arm per command (spec/30_encoding.md R113, column "rule"). -/

namespace Sys2Proof.Machine

def exec (i : Instr) (s : State) : Host.Outcome State Fault Refusal :=
  match i with
  | .classify => Sys2Proof.Machine.execClassify s
  | .dec2bcd => Sys2Proof.Machine.execDec2bcd s
  | .bcd2dec => Sys2Proof.Machine.execBcd2dec s
  | .ckStart sel => Sys2Proof.Machine.execCkStart sel s
  | .ckAcc sel => Sys2Proof.Machine.execCkAcc sel s
  | .ckFinal sel => Sys2Proof.Machine.execCkFinal sel s
  | .ckValid sel => Sys2Proof.Machine.execCkValid sel s
  | .encField kind => Sys2Proof.Machine.execEncField kind s
  | .encFeed kind => Sys2Proof.Machine.execEncFeed kind s
  | .decField => Sys2Proof.Machine.execDecField s
  | .asmFeed kind => Sys2Proof.Machine.execAsmFeed kind s
  | .asmReset => Sys2Proof.Machine.execAsmReset s

end Sys2Proof.Machine
end

