-- ==== Sys2Proof/Machine/RegMap.lean ====
section
/-! DEFINITION. The register map (spec/10_state.md R46): the registers, their bus addresses, which of them the host may
write, and what each reads as. -/

namespace Sys2Proof.Machine

/-- The registers of R46, by name. -/
inductive Reg where
  | cmd
  | arg0
  | arg1
  | res
  | status
  | ckTx
  | ckRx
  | txlen
  | rxlen
  | rxptr
  | msglen
  | curlen
  | ttPsM
  | ttPsS
  | ttHdrTp
  | ttHdrBc
  | ttHdrS
  | ttB1
  | ttB0
  | ttBs
  | ttGField
  | ttGTag
  | ttGCksum
  | pRxCap
  | pMaxData
  | pOptions
  | txMark (i : Nat)
  | txSpace (i : Nat)
  | msgout (i : Nat)
  | cur (i : Nat)
  | rxMark (i : Nat)
  | rxSpace (i : Nat)
  deriving DecidableEq, Repr

/-- The byte address of a register, as an offset from the block's base (R46, R85). -/
def regAddr : Reg → Nat
  | .cmd => 0x000
  | .arg0 => 0x004
  | .arg1 => 0x008
  | .res => 0x00C
  | .status => 0x010
  | .ckTx => 0x014
  | .ckRx => 0x018
  | .txlen => 0x01C
  | .rxlen => 0x020
  | .rxptr => 0x024
  | .msglen => 0x028
  | .curlen => 0x02C
  | .ttPsM => 0x040
  | .ttPsS => 0x044
  | .ttHdrTp => 0x048
  | .ttHdrBc => 0x04C
  | .ttHdrS => 0x050
  | .ttB1 => 0x054
  | .ttB0 => 0x058
  | .ttBs => 0x05C
  | .ttGField => 0x060
  | .ttGTag => 0x064
  | .ttGCksum => 0x068
  | .pRxCap => 0x070
  | .pMaxData => 0x074
  | .pOptions => 0x078
  | .txMark i => 0x100 + 8 * i
  | .txSpace i => 0x104 + 8 * i
  | .msgout i => 0x200 + 4 * i
  | .cur i => 0x300 + 4 * i
  | .rxMark i => rxMarkAddr i
  | .rxSpace i => rxSpaceAddr i

/-- Whether an instance has a register: the bounds of the indexed rows of R46. "An address inside a window but past its
region's current bound is unmapped". -/
def regMapped (c : Config) : Reg → Bool
  | .txMark i | .txSpace i => decide (i < txCap)
  | .msgout i => decide (i ≤ c.maxData + 1)
  | .cur i => decide (i ≤ c.maxData)
  | .rxMark i | .rxSpace i => decide (i < c.rxCap)
  | .cmd | .arg0 | .arg1 | .res | .status | .ckTx | .ckRx | .txlen | .rxlen | .rxptr | .msglen | .curlen => true
  | .ttPsM | .ttPsS | .ttHdrTp | .ttHdrBc | .ttHdrS | .ttB1 | .ttB0 | .ttBs | .ttGField | .ttGTag | .ttGCksum => true
  | .pRxCap | .pMaxData | .pOptions => true

/-- The registers at a fixed address. -/
def fixedRegs : List Reg :=
  [.cmd, .arg0, .arg1, .res, .status, .ckTx, .ckRx, .txlen, .rxlen, .rxptr, .msglen, .curlen] ++
    [.ttPsM, .ttPsS, .ttHdrTp, .ttHdrBc, .ttHdrS, .ttB1, .ttB0, .ttBs, .ttGField, .ttGTag, .ttGCksum] ++
    [.pRxCap, .pMaxData, .pOptions]

/-- A pulse buffer's word at an offset from the buffer's first: marks at 8i, spaces at 8i + 4. -/
def pulseReg (mark space : Nat → Reg) (offset : Nat) : Option Reg :=
  if offset % 8 = 0 then some (mark (offset / 8))
  else if offset % 8 = 4 then some (space (offset / 8))
  else none

/-- A field list's entry at an offset from its first. -/
def entryReg (entry : Nat → Reg) (offset : Nat) : Option Reg :=
  if offset % 4 = 0 then some (entry (offset / 4)) else none

/-- The register whose window an address lies in, its index not yet checked. -/
def regInWindow (addr : Nat) : Option Reg :=
  if addr < 0x100 then fixedRegs.find? fun r => regAddr r == addr
  else if addr < 0x200 then pulseReg .txMark .txSpace (addr - 0x100)
  else if addr < 0x300 then entryReg .msgout (addr - 0x200)
  else if addr < 0x400 then entryReg .cur (addr - 0x300)
  else if addr < 0x1000 then none
  else if addr < 0x2000 then pulseReg .rxMark .rxSpace (addr - 0x1000)
  else none

/-- The register at an address of an instance, none where the address is unmapped (R46). -/
def regAt (c : Config) (addr : Nat) : Option Reg := (regInWindow addr).filter (regMapped c)

/-- The registers marked RW (R46). -/
def regWritable : Reg → Bool
  | .cmd | .arg0 | .arg1 | .rxlen | .rxptr | .rxMark _ | .rxSpace _ => true
  | .res | .status | .ckTx | .ckRx | .txlen | .msglen | .curlen => false
  | .ttPsM | .ttPsS | .ttHdrTp | .ttHdrBc | .ttHdrS | .ttB1 | .ttB0 | .ttBs | .ttGField | .ttGTag | .ttGCksum => false
  | .pRxCap | .pMaxData | .pOptions => false
  | .txMark _ | .txSpace _ | .msgout _ | .cur _ => false

/-- A count as a register reads it. -/
def countWord (n : Nat) : Word := BitVec.ofNat 32 n

/-- Pulse i of a buffer; an index past the list reads as the zero pulse. -/
def pulseAt (ps : List Pulse) (i : Nat) : Pulse := ps.getD i zeroPulse

/-- Entry i of a field list: "An entry at index CURLEN or above reads 0" (R38; R39 for MSGOUT). -/
def entryWord (m : List Field) (i : Nat) : Word :=
  match m[i]? with
  | some f => f.word
  | none => 0

/-- What a register reads as (R33 to R46). Reading changes nothing (R83). -/
def readReg (s : State) : Reg → Word
  | .cmd => s.cmd
  | .arg0 => s.arg0
  | .arg1 => s.arg1
  | .res => s.res
  | .status => statusWord s
  | .ckTx => s.ckTx
  | .ckRx => s.ckRx
  | .txlen => countWord s.txlen
  | .rxlen => countWord s.rxlen
  | .rxptr => countWord s.rxptr
  | .msglen => countWord s.msgout.length
  | .curlen => countWord s.cur.length
  | .ttPsM => s.cfg.tPsM
  | .ttPsS => s.cfg.tPsS
  | .ttHdrTp => s.cfg.tHdrTp
  | .ttHdrBc => s.cfg.tHdrBc
  | .ttHdrS => s.cfg.tHdrS
  | .ttB1 => s.cfg.tB1
  | .ttB0 => s.cfg.tB0
  | .ttBs => s.cfg.tBs
  | .ttGField => s.cfg.gField
  | .ttGTag => s.cfg.gTag
  | .ttGCksum => s.cfg.gCksum
  | .pRxCap => countWord s.cfg.rxCap
  | .pMaxData => countWord s.cfg.maxData
  | .pOptions => optionsWord s.cfg
  | .txMark i => (pulseAt s.txbuf i).mark
  | .txSpace i => (pulseAt s.txbuf i).space
  | .msgout i => entryWord s.msgout i
  | .cur i => entryWord s.cur i
  | .rxMark i => (pulseAt s.rxbuf i).mark
  | .rxSpace i => (pulseAt s.rxbuf i).space

/-- A host write to a register that only stores (R83): every RW register but CMD. None for CMD, whose write executes, and
for a register marked R, which has no write. -/
def storeReg (s : State) (r : Reg) (v : Word) : Option State :=
  match r with
  | .arg0 => some (s.setArg0 v)
  | .arg1 => some (s.setArg1 v)
  | .rxlen => some (s.setRxlen v)
  | .rxptr => some (s.setRxptr v)
  | .rxMark i => some (s.setRxMark i v)
  | .rxSpace i => some (s.setRxSpace i v)
  | .cmd => none
  | .res | .status | .ckTx | .ckRx | .txlen | .msglen | .curlen => none
  | .ttPsM | .ttPsS | .ttHdrTp | .ttHdrBc | .ttHdrS | .ttB1 | .ttB0 | .ttBs | .ttGField | .ttGTag | .ttGCksum => none
  | .pRxCap | .pMaxData | .pOptions => none
  | .txMark _ | .txSpace _ | .msgout _ | .cur _ => none

end Sys2Proof.Machine
end

