-- ==== Sys2Proof/Machine/Bus.lean ====
section
/-! DEFINITION. The host register bus (spec/20_memory.md R80 to R84): the checks an access must pass, reads, writes, the
command cycle a write to CMD runs (30_encoding.md R110), and the reset input (70_reset_and_hazards.md R370). -/

namespace Sys2Proof.Machine

/-- The command cycle of R110: CMD holds the word whatever follows; a word that is no command raises ERR_OPCODE. -/
def runCommand (w : Word) (s : State) : Result :=
  match decode w with
  | .ok i => exec i (s.storeCmd w)
  | .error _ => .next ((s.storeCmd w).raise .opcode)

/-- The register an access reaches, or why the model has no step for it (R82; the order of the checks is log entry
5). -/
def checkAccess (c : Config) (addr width : Nat) : Except Fault Reg :=
  if width ≠ 4 then .error .accessWidth
  else if addr % 4 ≠ 0 then .error .misaligned
  else
    match regAt c addr with
    | none => .error .unmapped
    | some r => .ok r

/-- `MemRead(addr, width)`: the host gets the register's value and the block does not change (R83). -/
def busRead (addr width : Nat) (s : State) : Result :=
  match checkAccess s.cfg addr width with
  | .error f => .fault f
  | .ok r => .next { s with reads := readReg s r :: s.reads }

/-- `MemWrite(addr, width, v)`: a write to CMD executes, a write to another RW register stores (R83). -/
def busWrite (addr width : Nat) (v : Word) (s : State) : Result :=
  match checkAccess s.cfg addr width with
  | .error f => .fault f
  | .ok .cmd => runCommand v s
  | .ok r =>
    match storeReg s r v with
    | none => .fault .writeToReadOnly
    | some t => .next t

/-- The reset input (R370): every piece of the block's state takes its reset value, RXBUF a fresh draw; the instance
parameters and the host's side stay (log entry 12). -/
def resetInput (s : State) : State :=
  { State.resetOf s.cfg (s.resets + 1) with host := s.host, hostIndex := s.hostIndex, reads := s.reads }

/-- The host's next action is taken from its list; an access advances the host's index by one (R32). -/
def State.takeAccess (s : State) (rest : List HostAction) : State :=
  { s with host := rest, hostIndex := s.hostIndex + 1 }

/-- Taking the reset input from the host's list: it is no access, and the index stays. -/
def State.takeReset (s : State) (rest : List HostAction) : State := { s with host := rest }

/-- One action of the host. With none to come the block waits: it is passive (R30, R371). -/
def hostStep (s : State) : Result :=
  match s.host with
  | [] => .next s
  | .memRead addr width :: rest => busRead addr width (s.takeAccess rest)
  | .memWrite addr width v :: rest => busWrite addr width v (s.takeAccess rest)
  | .reset :: rest => .next (resetInput (s.takeReset rest))

/-- A model refuses an instance that is not well formed (R10, R231). -/
def instanceStep (s : State) : Result :=
  if configWf s.cfg then hostStep s else .refused .illFormedConfiguration

/-- The host issuing one command word next: the word of `nbits` bits, every bit above them 0, written to CMD. -/
def issueCommand (s : State) (nbits w : Nat) : State :=
  { s with host := .memWrite (regAddr .cmd) 4 (BitVec.ofNat 32 (w % 2 ^ nbits)) :: s.host }

end Sys2Proof.Machine
end

