-- ==== Sys2Proof/Machine/Step.lean ====
section
/-! DEFINITION. One step of the machine: the host's next bus access, performed whole (spec/20_memory.md R84, R87). -/

namespace Sys2Proof.Machine

/-- One step: the next access of the host (R30). -/
def step (s : State) : Host.Outcome State Fault Refusal := instanceStep s

/-- The state in which the host's next access writes the given command word to CMD. The block fetches no
instructions (R32): the host issues them (log entry 1). -/
def State.withFetchWord (s : State) (nbits w : Nat) : State := issueCommand s nbits w

end Sys2Proof.Machine
end

