-- ==== Sys2Proof/Machine/DecodeMachine.lean ====
section
/-! DEFINITION. The decoder as the per-pulse state machine of spec/44_pulse_codec.md R255, which restates the loop of
R252: one transition of the table at a time, each reading at most the pulses RX[i] and RX[i+1] by index. DEC_FIELD runs
`decodeField`; this second form is what it is compared with. -/

namespace Sys2Proof.Machine

/-- The states of the table of R255. -/
inductive DecodePhase where
  | presync
  | header
  | bits
  | done
  deriving DecidableEq, Repr

/-- The working variables of one decode (R48): they are no state of the block. -/
structure DecodeMachine where
  phase : DecodePhase
  index : Nat
  family : Family
  value : Nat
  count : Nat
  spaceFail : Bool
  next : Nat
  deriving DecidableEq, Repr

/-- The outcome of one transition: another state, or the end of the decode. -/
inductive DecodeTransition where
  | goto (m : DecodeMachine)
  | halt (r : Except ErrCode Decoded)

/-- The machine at the start of a decode from index `start`. -/
def decodeMachineStart (start : Nat) : DecodeMachine := ⟨.presync, start, .tp, 0, 0, false, 0⟩

/-- `RX[i]` (R13). -/
def rxAt (rx : List Pulse) (i : Nat) : Pulse := rx.getD i zeroPulse

/-- One row of the table of R255, the first that matches. -/
def decodeTransition (c : Config) (rx : List Pulse) (rxlen : Nat) (m : DecodeMachine) : DecodeTransition :=
  match m.phase with
  | .presync =>
    if m.index + 1 ≥ rxlen then .halt (.error .trunc)
    else if isPresync c (rxAt rx m.index) then .goto { m with phase := .header, index := m.index + 1 }
    else .halt (.error .presync)
  | .header =>
    match headerFamily c (rxAt rx m.index) with
    | some f => .goto { m with phase := .bits, index := m.index + 1, family := f }
    | none => .halt (.error .header)
  | .bits =>
    if m.index = rxlen then .goto { m with phase := .done, next := rxlen }
    else if isSentinel (rxAt rx m.index) then .goto { m with phase := .done, next := m.index + 1 }
    else if isGap c (rxAt rx m.index) then
      .goto { m with
        phase := .done
        next := if m.index + 1 < rxlen ∧ isSentinel (rxAt rx (m.index + 1)) = true then m.index + 2 else m.index + 1 }
    else if m.count = 9 then .halt (.error .length)
    else
      match bitOf c (rxAt rx m.index) with
      | some b =>
        .goto { m with
          index := m.index + 1
          value := (m.value <<< 1) ||| b
          count := m.count + 1
          spaceFail := m.spaceFail || !classify (rxAt rx m.index).space c.tBs }
      | none => .halt (.error .bit)
  | .done =>
    if m.spaceFail then .halt (.error .space)
    else
      match lookup m.family m.count m.value with
      | none => .halt (.error .fieldKind)
      | some k => .halt (.ok ⟨k, m.value, m.next⟩)

/-- The machine run for at most `fuel` transitions; none if it has not ended by then. -/
def runDecodeMachine (c : Config) (rx : List Pulse) (rxlen : Nat) :
    (fuel : Nat) → DecodeMachine → Option (Except ErrCode Decoded)
  | 0, _ => none
  | fuel + 1, m =>
    match decodeTransition c rx rxlen m with
    | .halt r => some r
    | .goto m' => runDecodeMachine c rx rxlen fuel m'

end Sys2Proof.Machine
end

