-- ==== Sys2Proof/Machine/HostNotation.lean ====
section
/-! DEFINITION. The host's notation (spec/30_encoding.md section 6): access lines and pseudo-instructions with their
expansions (R130, R131), the reader of the text format (R132), and the receive loop the source leaves to callers (R260,
R290; log entry 10). None of it is part of the block; it is how a host program becomes the list of accesses that
`State.host` holds. -/

namespace Sys2Proof.Machine

/-- One line of a host program. -/
inductive HostLine where
  /-- `WR <reg>, <value>` (R130). -/
  | wr (r : Reg) (v : Word)
  /-- `RD <reg>` (R130). -/
  | rd (r : Reg)
  /-- A command line, "`WR CMD, <word>`" (R130). -/
  | command (i : Instr)
  /-- `<L><n>:`, a text-format token (R131). -/
  | token (k : Kind) (n : Word)
  /-- `CLASSIFY o, c`. -/
  | classify (o c : Word)
  /-- `DEC2BCD n`. -/
  | dec2bcd (n : Word)
  /-- `BCD2DEC b`. -/
  | bcd2dec (b : Word)
  /-- `CK_START.S v`. -/
  | ckStart (sel : CkSel) (v : Word)
  /-- `CK_ACC.S v`. -/
  | ckAcc (sel : CkSel) (v : Word)
  /-- `CK_VALID.S v`. -/
  | ckValid (sel : CkSel) (v : Word)
  /-- `ENC_FIELD <L> n`. -/
  | encField (k : Kind) (n : Word)
  /-- `ENC_FEED <L> n`. -/
  | encFeed (k : Kind) (n : Word)
  /-- `ASM_FEED <L> n`. -/
  | asmFeed (k : Kind) (n : Word)
  /-- `LOADRX (m0,s0), ..., (mk-1,sk-1)`. -/
  | loadRx (ps : List Pulse)
  deriving DecidableEq, Repr

/-- `MemWrite(addr(<reg>), 4, <value>)` (R130). -/
def wrAction (r : Reg) (v : Word) : HostAction := .memWrite (regAddr r) 4 v

/-- `MemRead(addr(<reg>), 4)` (R130). -/
def rdAction (r : Reg) : HostAction := .memRead (regAddr r) 4

/-- `WR CMD, <word>` with the word of R113. -/
def commandAction (i : Instr) : HostAction := wrAction .cmd (encode i)

/-- `WR ARG0, v`, then the command. -/
def operandCommand (v : Word) (i : Instr) : List HostAction := [wrAction .arg0 v, commandAction i]

/-- The pulse writes of LOADRX from index i on. -/
def loadPulses : (i : Nat) → List Pulse → List HostAction
  | _, [] => []
  | i, p :: ps => wrAction (.rxMark i) p.mark :: wrAction (.rxSpace i) p.space :: loadPulses (i + 1) ps

/-- The expansion of a line into accesses (R130, R131). A text-format token is fed to ENC_FEED, which ignores a CHECKSUM
token's value. -/
def expandLine : HostLine → List HostAction
  | .wr r v => [wrAction r v]
  | .rd r => [rdAction r]
  | .command i => [commandAction i]
  | .token k n => operandCommand n (.encFeed (kindCode k))
  | .classify o c => [wrAction .arg0 o, wrAction .arg1 c, commandAction .classify]
  | .dec2bcd n => operandCommand n .dec2bcd
  | .bcd2dec b => operandCommand b .bcd2dec
  | .ckStart sel v => operandCommand v (.ckStart sel)
  | .ckAcc sel v => operandCommand v (.ckAcc sel)
  | .ckValid sel v => operandCommand v (.ckValid sel)
  | .encField k n => operandCommand n (.encField (kindCode k))
  | .encFeed k n => operandCommand n (.encFeed (kindCode k))
  | .asmFeed k n => operandCommand n (.asmFeed (kindCode k))
  | .loadRx ps => loadPulses 0 ps ++ [wrAction .rxlen (BitVec.ofNat 32 ps.length), wrAction .rxptr 0]

/-- A host program is the concatenation of its lines' expansions, in order (R131). -/
def expandLines (ls : List HostLine) : List HostAction := ls.flatMap expandLine

/-! The text format (R132). -/

/-- Why the reader refuses a string, "by name and position" (R132; log entry 13). -/
inductive TextRefusal where
  | badType (pos : Nat)
  | missingColon (pos : Nat)
  | noDigits (pos : Nat)
  | tooLarge (pos : Nat)
  deriving DecidableEq, Repr

/-- One token: a kind and the value after its letter. -/
structure Token where
  kind : Kind
  value : Word
  deriving DecidableEq, Repr

/-- The kind of a type character (R120, column "letter"). -/
def kindOfLetter (ch : Char) : Option Kind :=
  [Kind.packet, .data, .checksum, .tag, .beacon, .ltarBeacon].find? fun k => kindLetter k == ch

/-- A decimal digit's value. -/
def digitValue (ch : Char) : Option Nat :=
  if 48 ≤ ch.toNat ∧ ch.toNat ≤ 57 then some (ch.toNat - 48) else none

/-- The token being read: its kind, the value of the digits so far, and whether there was one. -/
structure PartialToken where
  kind : Kind
  value : Nat
  seen : Bool
  deriving DecidableEq, Repr

/-- The reader from position `pos` on, between tokens or inside one (R132). -/
def readChars : List Char → (pos : Nat) → Option PartialToken → Except TextRefusal (List Token)
  | [], _, none => .ok []
  | [], pos, some _ => .error (.missingColon pos)
  | ch :: rest, pos, none =>
    match kindOfLetter ch with
    | none => .error (.badType pos)
    | some k => readChars rest (pos + 1) (some ⟨k, 0, false⟩)
  | ch :: rest, pos, some t =>
    if ch = ':' then
      if t.seen = false then .error (.noDigits pos)
      else if 2 ^ 32 ≤ t.value then .error (.tooLarge pos)
      else
        match readChars rest (pos + 1) none with
        | .error e => .error e
        | .ok ts => .ok (⟨t.kind, BitVec.ofNat 32 t.value⟩ :: ts)
    else
      match digitValue ch with
      | some d => readChars rest (pos + 1) (some ⟨t.kind, 10 * t.value + d, true⟩)
      | none => .error (.missingColon pos)

/-- The characters stripped from both ends of a text (R132; log entry 13). -/
def isBlank (ch : Char) : Bool := ch == ' ' || ch == '\t' || ch == '\n' || ch == '\r'

def stripBlanks (text : List Char) : List Char :=
  (((text.dropWhile isBlank).reverse).dropWhile isBlank).reverse

/-- The reader of R132. Positions count from the first character that is not stripped. -/
def readText (text : List Char) : Except TextRefusal (List Token) := readChars (stripBlanks text) 0 none

/-- The accesses of a text: each token's expansion in order, and none for a string the reader refuses (R131, R132). -/
def textActions (text : List Char) : List HostAction :=
  match readText text with
  | .error _ => []
  | .ok ts => expandLines (ts.map fun t => .token t.kind t.value)

/-! The host's command sequences. -/

/-- `WR ARG0, v`, then a command, for each pair of a list in order; none if a command does not complete. -/
def runFeeds : List (Instr × Word) → State → Option State
  | [], s => some s
  | (i, v) :: rest, s =>
    match exec i (s.setArg0 v) with
    | .next t => runFeeds rest t
    | _ => none

/-- One turn of the receive loop: DEC_FIELD, and on success ASM_FEED of the field in RES, "split into its kind and value
by the host" (R290; log entry 10). -/
def receiveField (s : State) : Result :=
  match exec .decField s with
  | .next t =>
    if t.err = .ok then exec (.asmFeed (t.res.extractLsb' 16 3)) (t.setArg0 ((t.res.extractLsb' 0 9).setWidth 32))
    else .next t
  | stopped => stopped

/-- The receive loop for a number of fields. -/
def receiveFields : (n : Nat) → State → Option State
  | 0, s => some s
  | n + 1, s =>
    match receiveField s with
    | .next t => receiveFields n t
    | _ => none

end Sys2Proof.Machine
end

