-- ==== Sys2Proof/Safety.lean ====
section
/-! DEFINITION. What counts as a good state of the block, in the terms the claims use: the invariants the spec gives
(spec/10_state.md R38 to R42, 45_assembler.md R291, 00_scope.md R10). -/

namespace Sys2Proof.Machine

/-- A field whose value is legal for its kind (R121). -/
def Field.Legal (f : Field) : Prop := legal f.kind f.value.toNat = true

/-- A PACKET followed by DATA fields, all legal: what CUR holds inside a message (R38). -/
def OpenMessage (m : List Field) : Prop :=
  ∃ p ds, m = p :: ds ∧ p.kind = .packet ∧ p.Legal ∧ ∀ d ∈ ds, d.kind = .data ∧ d.Legal

/-- The first message shape of R291: PACKET, DATA*, CHECKSUM with at most MAX_DATA DATA fields. -/
def FramedMessage (maxData : Nat) (m : List Field) : Prop :=
  ∃ body k, m = body ++ [k] ∧ OpenMessage body ∧ body.length ≤ maxData + 1 ∧ k.kind = .checksum ∧ k.Legal

/-- The second message shape of R291: one TAG, BEACON or LTAR_BEACON field alone. -/
def SingleMessage (m : List Field) : Prop :=
  ∃ f, m = [f] ∧ (f.kind = .tag ∨ f.kind = .beacon ∨ f.kind = .ltarBeacon) ∧ f.Legal

/-- The sum of the values of a list of fields. -/
def fieldSum (m : List Field) : Nat := (m.map fun f => f.value.toNat).sum

/-- The total CK_RX must hold inside a message: the sum of the PACKET and DATA values, mod 256 (R205, R290). -/
def RunningTotal (s : State) : Prop := s.asm = .inMessage → s.ckRx.toNat % 256 = fieldSum s.cur % 256

/-- The invariant of the block. -/
structure State.Inv (s : State) : Prop where
  /-- The instance is well formed (R10, R231). -/
  config : configWf s.cfg = true
  /-- TXBUF and RXBUF have their sizes (R40, R41). -/
  memory : Memory.wf s = true
  /-- TXLEN is 0 to 13 (R40). -/
  txlenBound : s.txlen ≤ txCap
  /-- "an entry at index TXLEN or above reads 0" (R40). -/
  txTail : ∀ i, s.txlen ≤ i → pulseAt s.txbuf i = zeroPulse
  /-- RXLEN is 0 to RX_CAP (R41). -/
  rxlenBound : s.rxlen ≤ s.cfg.rxCap
  /-- RXPTR is 0 to RX_CAP (R42). -/
  rxptrBound : s.rxptr ≤ s.cfg.rxCap
  /-- "asm = IN_MESSAGE if and only if CURLEN ≥ 1" (R38). -/
  asmCur : s.asm = .inMessage ↔ 1 ≤ s.cur.length
  /-- "When asm = IN_MESSAGE, CUR[0] is a PACKET field and CUR[1..CURLEN-1] are DATA fields" (R38). -/
  curShape : s.asm = .inMessage → OpenMessage s.cur
  /-- CURLEN is 0 to MAX_DATA+1 (R38). -/
  curBound : s.cur.length ≤ s.cfg.maxData + 1
  /-- MSGOUT is empty or one of the two message shapes (R39, R291). -/
  msgShape : s.msgout = [] ∨ FramedMessage s.cfg.maxData s.msgout ∨ SingleMessage s.msgout

/-- The "writes" column of R113, with STATUS, which every command writes (R35): whether a command may change what a
register reads as. CUR shows as CUR[i] and CURLEN, MSGOUT as MSGOUT[i] and MSGLEN, TXBUF as its words. -/
def commandWrites (i : Instr) (r : Reg) : Bool :=
  match r with
  | .status => true
  | .res =>
    match i with
    | .classify | .dec2bcd | .bcd2dec | .ckFinal _ | .ckValid _ | .encFeed _ | .decField => true
    | .ckStart _ | .ckAcc _ | .encField _ | .asmFeed _ | .asmReset => false
  | .ckTx =>
    match i with
    | .ckStart .tx | .ckAcc .tx | .ckFinal .tx | .encFeed _ => true
    | .ckStart .rx | .ckAcc .rx | .ckFinal .rx => false
    | .classify | .dec2bcd | .bcd2dec | .ckValid _ | .encField _ | .decField | .asmFeed _ | .asmReset => false
  | .ckRx =>
    match i with
    | .ckStart .rx | .ckAcc .rx | .ckFinal .rx | .asmFeed _ | .asmReset => true
    | .ckStart .tx | .ckAcc .tx | .ckFinal .tx => false
    | .classify | .dec2bcd | .bcd2dec | .ckValid _ | .encField _ | .encFeed _ | .decField => false
  | .txlen | .txMark _ | .txSpace _ =>
    match i with
    | .encField _ | .encFeed _ => true
    | .classify | .dec2bcd | .bcd2dec | .ckStart _ | .ckAcc _ | .ckFinal _ | .ckValid _ | .decField | .asmFeed _
    | .asmReset => false
  | .rxptr => decide (i = .decField)
  | .cur _ | .curlen =>
    match i with
    | .asmFeed _ | .asmReset => true
    | .classify | .dec2bcd | .bcd2dec | .ckStart _ | .ckAcc _ | .ckFinal _ | .ckValid _ | .encField _ | .encFeed _
    | .decField => false
  | .msgout _ | .msglen =>
    match i with
    | .asmFeed _ => true
    | .classify | .dec2bcd | .bcd2dec | .ckStart _ | .ckAcc _ | .ckFinal _ | .ckValid _ | .encField _ | .encFeed _
    | .decField | .asmReset => false
  | .cmd | .arg0 | .arg1 | .rxlen | .rxMark _ | .rxSpace _ => false
  | .ttPsM | .ttPsS | .ttHdrTp | .ttHdrBc | .ttHdrS | .ttB1 | .ttB0 | .ttBs | .ttGField | .ttGTag | .ttGCksum => false
  | .pRxCap | .pMaxData | .pOptions => false

/-- The states a run of steps reaches: "each command in place between two accesses" (R87). -/
inductive Reaches : State → State → Prop where
  | refl (s : State) : Reaches s s
  | tail {s t u : State} : Reaches s t → step t = .next u → Reaches s u

end Sys2Proof.Machine
end

