-- ==== Sys2Proof/Certificates/Slice0/Obligations.lean ====
section
/-! DEFINITION. The statements for the provers, from the numbered rules of spec/. OBLIGATIONS.json gives each its
rules, its quotation and its tier. Commands are stated as equations `exec i s = .next { s with … }`: the record says what
changes, and that every other register, flag, buffer and the host's side stay as they were. -/

open Sys2Proof Sys2Proof.Machine

/-! ## Encoding -/

/-- Decoding what the encoder wrote gives the command back, as a word and as the four byte lanes of R81, for every
command and every operand its encoding admits, the reserved KIND codes among them (log entry 7). -/
def Obligations.EncodeThenDecodeGivesTheCommand : Prop :=
  ∀ i : Instr, decode (encode i) = .ok i ∧ decodeBytes (encodeBytes i) = .ok i

/-- Each command word has one meaning: a word that decodes to a command is that command's encoding. -/
def Obligations.DecodedWordIsTheCommandsEncoding : Prop :=
  ∀ (w : Word) (i : Instr), decode w = .ok i → encode i = w

/-- The ERR_OPCODE checks of R110 and R114, in numbers: a word decodes to a command if and only if bits [31:12] are 0, the
opcode is one of the map, KIND is 0 unless the opcode uses KIND, and CKSEL is 0 unless it uses CKSEL. R114 counts as
commands only those with legal fields; that the words with KIND 6 and 7 decode too, and raise ERR_KIND when they run, is the
model's reading (DEDUCED, log entry 7). -/
def Obligations.CommandWordsAreThoseOfTheMap : Prop :=
  ∀ w : Word,
    (∃ i, decode w = .ok i) ↔
      w.toNat / 4096 = 0 ∧
        ((w.toNat % 256 ∈ [0x01, 0x02, 0x03, 0x22, 0x31] ∧ w.toNat / 256 = 0) ∨
          (w.toNat % 256 ∈ [0x10, 0x11, 0x12, 0x13] ∧ w.toNat / 256 % 8 = 0) ∨
          (w.toNat % 256 ∈ [0x20, 0x21, 0x30] ∧ w.toNat / 2048 = 0))

/-- A sanity check on words written out from R111 and R113. -/
def Obligations.WordsOfTheSpecDecode : Prop :=
  decode 0x00000001 = .ok .classify ∧ decode 0x00000002 = .ok .dec2bcd ∧ decode 0x00000003 = .ok .bcd2dec ∧
    decode 0x00000810 = .ok (.ckStart .rx) ∧ decode 0x00000011 = .ok (.ckAcc .tx) ∧
    decode 0x00000121 = .ok (.encFeed 1) ∧ decode 0x00000320 = .ok (.encField 3) ∧
    decode 0x00000022 = .ok .decField ∧ decode 0x00000230 = .ok (.asmFeed 2) ∧ decode 0x00000031 = .ok .asmReset

/-! ## The command cycle and the step -/

/-- R110: a host write to CMD at address 0x000 runs one command, and the checks of the command cycle come in their
order. CMD holds the word in every case. A word that passes every check runs the rule of its opcode with STATUS.ERR and
STATUS.EMIT cleared. -/
def Obligations.CommandCycleChecksInOrder : Prop :=
  ∀ (w : Word) (s : State),
    let op := w.toNat % 256
    let kind := w.toNat / 256 % 8
    let cksel := w.toNat / 2048 % 2
    let usesKind := op ∈ [0x20, 0x21, 0x30]
    let usesCksel := op ∈ [0x10, 0x11, 0x12, 0x13]
    let badOpcode := ¬ (op ∈ [0x01, 0x02, 0x03, 0x22, 0x31] ∨ usesKind ∨ usesCksel) ∨ w.toNat / 4096 ≠ 0 ∨
      (¬ usesKind ∧ kind ≠ 0) ∨ (¬ usesCksel ∧ cksel ≠ 0)
    (∀ rest, configWf s.cfg = true → s.host = .memWrite 0x000 4 w :: rest →
      step s = runCommand w { s with host := rest, hostIndex := s.hostIndex + 1 }) ∧
    (badOpcode → runCommand w s = .next { s with cmd := w, err := .opcode, emit := false }) ∧
    (¬ badOpcode → usesKind ∧ kind > 5 → runCommand w s = .next { s with cmd := w, err := .kind, emit := false }) ∧
    (¬ badOpcode → ¬ (usesKind ∧ kind > 5) →
      ∃ i : Instr, i.wf = true ∧ i.op.byte.toNat = op ∧ encode i = w ∧
        runCommand w s = exec i { s with cmd := w, err := .ok, emit := false })

/-- A step runs the decoded command: when the host's next access writes a word that decodes to i to CMD, the step is
exec of i on the state with that access taken from the host's list, the host's index advanced by one and the word in
CMD. A word that decodes to no command raises ERR_OPCODE. The host's list and its index are the model's form of R32
(log entry 1). -/
def Obligations.StepRunsTheDecodedCommand : Prop :=
  ∀ (s : State) (w : Word) (rest : List HostAction),
    configWf s.cfg = true → s.host = .memWrite 0x000 4 w :: rest →
      (∀ i, decode w = .ok i → step s = exec i { s with host := rest, hostIndex := s.hostIndex + 1, cmd := w }) ∧
      (∀ e, decode w = .error e →
        step s = .next { s with
          host := rest, hostIndex := s.hostIndex + 1, cmd := w, err := .opcode, emit := false })

/-- R334: no command ever stops the block. Every command completes in a next state, whatever the state. -/
def Obligations.EveryCommandCompletes : Prop :=
  ∀ (i : Instr) (s : State), ∃ t, exec i s = .next t

/-- R331: a raised error changes exactly CMD, STATUS.EMIT and STATUS.ERR. The codes that are reported, not raised, are
ERR_SEQ, ERR_CKSUM and ERR_OVERFLOW (R330, column "mechanism"). -/
def Obligations.RaisedErrorChangesOnlyCmdAndStatus : Prop :=
  ∀ (w : Word) (s t : State), runCommand w s = .next t →
    t.err ≠ .ok → t.err ≠ .seq → t.err ≠ .cksum → t.err ≠ .overflow →
      t = { s with cmd := w, err := t.err, emit := false }

/-- R332: only ASM_FEED reports an error, and the state changes that go with it stand. A PACKET inside a message under
PACKET_RESTART = RESTART starts the new message; in every other case the message in progress is discarded, the assembler is
IDLE and CK_RX is 0. -/
def Obligations.ReportedErrorDiscardsTheMessage : Prop :=
  ∀ (i : Instr) (s t : State), exec i s = .next t → t.err = .seq ∨ t.err = .cksum ∨ t.err = .overflow →
    ∃ code, i = .asmFeed code ∧
      if s.cfg.packetRestart = .restart ∧ s.asm = .inMessage ∧ code = 0 then
        t = { s with
          err := .seq, emit := false, cur := [mkField .packet s.arg0.toNat], asm := .inMessage, ckRx := s.arg0 }
      else t = { s with err := t.err, emit := false, cur := [], asm := .idle, ckRx := 0 }

/-- R121: which fields are legal, and that ENC_FIELD, ENC_FEED and ASM_FEED raise ERR_VALUE on one that is not, except
that ENC_FEED does not check a CHECKSUM. -/
def Obligations.IllegalFieldRaisesErrValue : Prop :=
  (∀ v : Nat,
    (legal .packet v = true ↔ v ≤ 255) ∧ (legal .data v = true ↔ v ≤ 255) ∧
    (legal .checksum v = true ↔ 256 ≤ v ∧ v ≤ 511) ∧ (legal .tag v = true ↔ v ≤ 127) ∧
    (legal .beacon v = true ↔ v ≤ 31) ∧ (legal .ltarBeacon v = true ↔ v ≤ 511)) ∧
  (∀ (k : Kind) (s : State), legal k s.arg0.toNat = false →
    exec (.encField (kindCode k)) s = .next { s with err := .value, emit := false } ∧
    exec (.asmFeed (kindCode k)) s = .next { s with err := .value, emit := false } ∧
    (k ≠ .checksum → exec (.encFeed (kindCode k)) s = .next { s with err := .value, emit := false })) ∧
  (∀ s : State, ∃ t, exec (.encFeed (kindCode .checksum)) s = .next t ∧ t.err = .ok)

/-! ## Frames and whole-machine rules -/

/-- R113, column "writes": a command changes what a register reads as only if it is a register the column names for it,
or STATUS; every other register, buffer word and list entry reads as before, and the instance, RXBUF, RXLEN and the
host's side stay. -/
def Obligations.CommandsWriteOnlyTheirRegisters : Prop :=
  ∀ (i : Instr) (s t : State), exec i s = .next t →
    (∀ r : Reg, commandWrites i r = false → readReg t r = readReg s r) ∧
    t.cfg = s.cfg ∧ t.rxbuf = s.rxbuf ∧ t.rxlen = s.rxlen ∧ t.host = s.host ∧ t.hostIndex = s.hostIndex ∧
    t.reads = s.reads ∧ t.resets = s.resets

/-- R34: RES changes only on a command that completes without error and whose rule writes it; the host cannot write it;
it is 0 after reset. -/
def Obligations.ResultWrittenOnlyOnSuccess : Prop :=
  (∀ (i : Instr) (s t : State), exec i s = .next t → t.res ≠ s.res → t.err = .ok ∧ commandWrites i .res = true) ∧
  (∀ (s : State) (v : Word) (rest : List HostAction),
    configWf s.cfg = true → s.host = .memWrite 0x00C 4 v :: rest → step s = .fault .writeToReadOnly) ∧
  (∀ (c : Config) (k : Nat), (State.resetOf c k).res = 0)

/-- R37: over any step of the machine, the assembler state changes only by ASM_FEED, by ASM_RESET or by the reset
input; it is IDLE after reset and STATUS.ASM shows it. -/
def Obligations.OnlyAssemblerCommandsMoveTheAssembler : Prop :=
  (∀ s t : State, step s = .next t → t.asm ≠ s.asm →
    ∃ rest, s.host = .reset :: rest ∨
      ∃ w i, s.host = .memWrite 0x000 4 w :: rest ∧ decode w = .ok i ∧
        (i = .asmReset ∨ ∃ code, i = .asmFeed code)) ∧
  (∀ (c : Config) (k : Nat), (State.resetOf c k).asm = .idle) ∧
  (∀ s : State, (readReg s .status).getLsbD 8 = decide (s.asm = .inMessage))

/-- R35, R39: a command sets STATUS.EMIT exactly when it latches MSGOUT, and it latches either the message in progress
with its CHECKSUM or one field alone; a command that leaves EMIT 0 leaves MSGOUT as it was. -/
def Obligations.EmitLatchesTheCompletedMessage : Prop :=
  ∀ (i : Instr) (s t : State), exec i s = .next t →
    (t.emit = false ∧ t.msgout = s.msgout) ∨
    (t.emit = true ∧ t.err = .ok ∧ t.asm = .idle ∧ ∃ k, i = .asmFeed (kindCode k) ∧
      ((s.asm = .idle ∧ t.msgout = [mkField k s.arg0.toNat] ∧ (k = .tag ∨ k = .beacon ∨ k = .ltarBeacon)) ∨
        (s.asm = .inMessage ∧ k = .checksum ∧ t.msgout = s.cur ++ [mkField k s.arg0.toNat])))

/-- R44, R45: the timing-table and parameter registers read as the instance's parameters, and no step changes them. -/
def Obligations.ParameterRegistersAreConstant : Prop :=
  (∀ s : State,
    ([Reg.ttPsM, .ttPsS, .ttHdrTp, .ttHdrBc, .ttHdrS, .ttB1, .ttB0, .ttBs, .ttGField, .ttGTag, .ttGCksum].map
        (readReg s)) =
      [s.cfg.tPsM, s.cfg.tPsS, s.cfg.tHdrTp, s.cfg.tHdrBc, s.cfg.tHdrS, s.cfg.tB1, s.cfg.tB0, s.cfg.tBs,
        s.cfg.gField, s.cfg.gTag, s.cfg.gCksum] ∧
    readReg s .pRxCap = BitVec.ofNat 32 s.cfg.rxCap ∧ readReg s .pMaxData = BitVec.ofNat 32 s.cfg.maxData ∧
    (readReg s .pOptions).toNat =
      (if s.cfg.packetRestart = .restart then 1 else 0) + (if s.cfg.bcd2decInvalid = .arith then 2 else 0)) ∧
  (∀ s t : State, step s = .next t → t.cfg = s.cfg)

/-- R35, R330: STATUS reads as the error code in [7:0], ASM in [8] and EMIT in [9], with every higher bit 0, and the
codes are those of R330. -/
def Obligations.StatusShowsItsFields : Prop :=
  (∀ s : State,
    (readReg s .status).toNat =
      (errCodeNumber s.err).toNat + (if s.asm = .inMessage then 256 else 0) + (if s.emit = true then 512 else 0)) ∧
  [ErrCode.ok, .opcode, .kind, .value, .domain, .trunc, .presync, .header, .bit, .length, .space, .fieldKind, .seq,
      .cksum, .overflow].map (fun e => (errCodeNumber e).toNat) = List.range 15

/-! ## Reset and invariants -/

/-- R370: the reset input puts every register in its reset value, keeps the instance parameters, and leaves RXBUF's
words open (only how many there are is stated). With RXLEN 0, DEC_FIELD raises ERR_TRUNC whatever RXBUF holds. Nothing
is claimed here of the host's side. -/
def Obligations.ResetPutsEveryRegisterInItsResetValue : Prop :=
  (∀ (s : State) (rest : List HostAction), configWf s.cfg = true → s.host = .reset :: rest →
    ∃ t, step s = .next t ∧ t.cfg = s.cfg ∧ t.cmd = 0 ∧ t.arg0 = 0 ∧ t.arg1 = 0 ∧ t.res = 0 ∧ t.err = .ok ∧
      t.emit = false ∧ t.asm = .idle ∧ t.ckTx = 0 ∧ t.ckRx = 0 ∧ t.txbuf = List.replicate 13 ⟨0, 0⟩ ∧ t.txlen = 0 ∧
      t.rxbuf.length = s.cfg.rxCap ∧ t.rxlen = 0 ∧ t.rxptr = 0 ∧ t.cur = [] ∧ t.msgout = [] ∧
      (∀ r ∈ [Reg.cmd, .arg0, .arg1, .res, .status, .ckTx, .ckRx, .txlen, .rxlen, .rxptr, .msglen, .curlen],
        readReg t r = 0) ∧
      (∀ i, readReg t (.txMark i) = 0 ∧ readReg t (.txSpace i) = 0 ∧ readReg t (.msgout i) = 0 ∧
        readReg t (.cur i) = 0) ∧
      exec .decField t = .next { t with err := .trunc, emit := false })

/-- The state after a reset of a well-formed instance meets the invariant of the block, and so does the machine's reset
state (the choice of REFCFG for it is the model's, log entry 2). -/
def Obligations.ResetStateMeetsTheInvariant : Prop :=
  (∀ (c : Config) (k : Nat), configWf c = true → (State.resetOf c k).Inv) ∧ State.reset.Inv

/-- Every step keeps the invariant: the buffers keep their sizes, the counts stay in their ranges, TXBUF reads 0 past
TXLEN, the assembler is in a message exactly when CUR holds one, CUR is a PACKET followed by DATA fields and within its
bound, and MSGOUT is empty or one of the two message shapes. -/
def Obligations.EveryStepKeepsTheInvariant : Prop :=
  ∀ s t : State, s.Inv → step s = .next t → t.Inv

/-- Every command but CK_START and CK_ACC on CK_RX (R386) keeps CK_RX equal, mod 256, to the sum of the fields of the
message in progress; and a message emitted from such a state has the checksum of its own PACKET and DATA values. -/
def Obligations.RunningTotalIsTheSumOfTheMessage : Prop :=
  ∀ (i : Instr) (s t : State), s.Inv → RunningTotal s → i ≠ .ckStart .rx → i ≠ .ckAcc .rx → exec i s = .next t →
    RunningTotal t ∧
    (t.emit = true → SingleMessage t.msgout ∨
      ∃ body k, t.msgout = body ++ [k] ∧ OpenMessage body ∧ k.kind = .checksum ∧
        k.value.toNat = fieldSum body % 256 + 256)

/-- "Every piece of state is readable through the register map" (R341): two states of the block that meet the invariant
and answer every mapped register alike are alike in every piece of state the block has. -/
def Obligations.RegisterMapShowsTheWholeState : Prop :=
  ∀ s t : State, s.Inv → t.Inv →
    (∀ r, regMapped s.cfg r = true → readReg s r = readReg t r) →
    t = { s with host := t.host, hostIndex := t.hostIndex, reads := t.reads, resets := t.resets }

/-! ## The host register bus -/

/-- The register map of R46: each register's address, R or RW mark and index bound, in numbers; what it reads as; on a
well-formed instance the register an address reaches is the one of the map, and no other address is mapped; and each region
stays in its window. -/
def Obligations.RegisterMapGivesEachAddressItsRegister : Prop :=
  ([Reg.cmd, .arg0, .arg1, .res, .status, .ckTx, .ckRx, .txlen, .rxlen, .rxptr, .msglen, .curlen].map
      (fun r => (regAddr r, regWritable r)) =
    [(0x000, true), (0x004, true), (0x008, true), (0x00C, false), (0x010, false), (0x014, false), (0x018, false),
      (0x01C, false), (0x020, true), (0x024, true), (0x028, false), (0x02C, false)]) ∧
  ([Reg.ttPsM, .ttPsS, .ttHdrTp, .ttHdrBc, .ttHdrS, .ttB1, .ttB0, .ttBs, .ttGField, .ttGTag, .ttGCksum, .pRxCap,
        .pMaxData, .pOptions].map
      (fun r => (regAddr r, regWritable r)) =
    [(0x040, false), (0x044, false), (0x048, false), (0x04C, false), (0x050, false), (0x054, false), (0x058, false),
      (0x05C, false), (0x060, false), (0x064, false), (0x068, false), (0x070, false), (0x074, false),
      (0x078, false)]) ∧
  (∀ i : Nat,
    regAddr (.txMark i) = 0x100 + 8 * i ∧ regAddr (.txSpace i) = 0x104 + 8 * i ∧ regAddr (.msgout i) = 0x200 + 4 * i ∧
      regAddr (.cur i) = 0x300 + 4 * i ∧ regAddr (.rxMark i) = 0x1000 + 8 * i ∧ regAddr (.rxSpace i) = 0x1004 + 8 * i ∧
      [Reg.txMark i, .txSpace i, .msgout i, .cur i, .rxMark i, .rxSpace i].map regWritable =
        [false, false, false, false, true, true]) ∧
  (∀ (c : Config) (r : Reg),
    regMapped c r = true ↔
      match r with
      | .txMark i | .txSpace i => i ≤ 12
      | .msgout i => i ≤ c.maxData + 1
      | .cur i => i ≤ c.maxData
      | .rxMark i | .rxSpace i => i < c.rxCap
      | _ => True) ∧
  (∀ s : State,
    [Reg.cmd, .arg0, .arg1, .res, .ckTx, .ckRx].map (readReg s) = [s.cmd, s.arg0, s.arg1, s.res, s.ckTx, s.ckRx] ∧
    [Reg.txlen, .rxlen, .rxptr, .msglen, .curlen].map (readReg s) =
      [s.txlen, s.rxlen, s.rxptr, s.msgout.length, s.cur.length].map (BitVec.ofNat 32) ∧
    (∀ i p, s.txbuf[i]? = some p → readReg s (.txMark i) = p.mark ∧ readReg s (.txSpace i) = p.space) ∧
    (∀ i p, s.rxbuf[i]? = some p → readReg s (.rxMark i) = p.mark ∧ readReg s (.rxSpace i) = p.space) ∧
    (∀ i f, s.msgout[i]? = some f → (readReg s (.msgout i)).toNat = (kindCode f.kind).toNat * 65536 + f.value.toNat) ∧
    (∀ i f, s.cur[i]? = some f → (readReg s (.cur i)).toNat = (kindCode f.kind).toNat * 65536 + f.value.toNat) ∧
    (∀ i, s.msgout.length ≤ i → readReg s (.msgout i) = 0) ∧ (∀ i, s.cur.length ≤ i → readReg s (.cur i) = 0)) ∧
  (∀ (c : Config) (addr : Nat) (r : Reg), configWf c = true →
    (regAt c addr = some r ↔ regAddr r = addr ∧ regMapped c r = true)) ∧
  (∀ (c : Config) (i : Nat), configWf c = true →
    (regMapped c (.msgout i) = true → regAddr (.msgout i) < 0x300) ∧
    (regMapped c (.cur i) = true → regAddr (.cur i) < 0x400) ∧
    (regMapped c (.rxSpace i) = true → regAddr (.rxSpace i) < 0x2000))

/-- R83: a read of a mapped register answers the host with the register's value and changes nothing else. -/
def Obligations.ReadsAnswerAndChangeNothing : Prop :=
  ∀ (s : State) (addr : Nat) (r : Reg) (rest : List HostAction),
    configWf s.cfg = true → s.host = .memRead addr 4 :: rest → addr % 4 = 0 → regAt s.cfg addr = some r →
      step s = .next { s with host := rest, hostIndex := s.hostIndex + 1, reads := readReg s r :: s.reads }

/-- R33, R41, R42, R83: a host write to ARG0, ARG1, RXLEN, RXPTR or an RXBUF word stores the value, clamped to RX_CAP
for RXLEN and RXPTR, and every other register reads as before. -/
def Obligations.StoringWritesChangeOneRegister : Prop :=
  ∀ (s : State) (addr : Nat) (v : Word) (r : Reg) (rest : List HostAction),
    configWf s.cfg = true → Memory.wf s = true → s.host = .memWrite addr 4 v :: rest → addr % 4 = 0 →
    regAt s.cfg addr = some r → regWritable r = true → r ≠ .cmd →
      ∃ t, step s = .next t ∧
        readReg t r = (if r = .rxlen ∨ r = .rxptr then BitVec.ofNat 32 (min v.toNat s.cfg.rxCap) else v) ∧
        (∀ r', r' ≠ r → readReg t r' = readReg s r') ∧
        t.cfg = s.cfg ∧ t.host = rest ∧ t.hostIndex = s.hostIndex + 1 ∧ t.reads = s.reads ∧ t.resets = s.resets

/-- R82: an access of another width, of a misaligned or unmapped address, and a write to a register that is not marked
RW, have no step: the run is stuck there. Every other access has one. -/
def Obligations.RefusedAccessesAreStuck : Prop :=
  (∀ (s : State) (addr width : Nat) (rest : List HostAction),
    configWf s.cfg = true → s.host = .memRead addr width :: rest →
      (width = 4 ∧ addr % 4 = 0 ∧ (∃ r, regAddr r = addr ∧ regMapped s.cfg r = true) → ∃ t, step s = .next t) ∧
      (¬ (width = 4 ∧ addr % 4 = 0 ∧ ∃ r, regAddr r = addr ∧ regMapped s.cfg r = true) → ∃ f, step s = .fault f)) ∧
  (∀ (s : State) (addr width : Nat) (v : Word) (rest : List HostAction),
    configWf s.cfg = true → s.host = .memWrite addr width v :: rest →
      (width = 4 ∧ addr % 4 = 0 ∧ (∃ r, regAddr r = addr ∧ regMapped s.cfg r = true ∧ regWritable r = true) →
        ∃ t, step s = .next t) ∧
      (¬ (width = 4 ∧ addr % 4 = 0 ∧ ∃ r, regAddr r = addr ∧ regMapped s.cfg r = true ∧ regWritable r = true) →
        ∃ f, step s = .fault f))

/-- R30, R32: with nothing from the host the block does nothing; each access the host makes is taken from its list and
advances its index by one, and the reset input, which is no access, leaves the index (log entries 1 and 12). -/
def Obligations.EachAccessAdvancesTheHostsIndex : Prop :=
  (∀ s : State, configWf s.cfg = true → s.host = [] → step s = .next s) ∧
  (∀ (s t : State) (a : HostAction) (rest : List HostAction), s.host = a :: rest → step s = .next t →
    t.host = rest ∧ t.hostIndex = (if a = .reset then s.hostIndex else s.hostIndex + 1))

/-- R231, with R9's ranges (that they too make an instance well formed is log entry 6): an instance is well formed
exactly when W1 to W4 hold, overlap being that some integer classifies against both canonical values, and RX_CAP and
MAX_DATA are in their ranges. -/
def Obligations.WellFormedInstanceIsW1ToW4 : Prop :=
  ∀ c : Config,
    let within := fun (d : Nat) (a : Word) => 4 * a.toNat ≤ 5 * d ∧ 5 * d ≤ 6 * a.toNat
    let apart := fun a b : Word => ¬ ∃ d : Nat, within d a ∧ within d b
    configWf c = true ↔
      (∀ a ∈ [c.tPsM, c.tPsS, c.tHdrTp, c.tHdrBc, c.tHdrS, c.tB1, c.tB0, c.tBs], 1 ≤ a.toNat) ∧
      (∀ g ∈ [c.gField, c.gTag, c.gCksum], 2 ≤ g.toNat) ∧
      apart c.tHdrTp c.tHdrBc ∧ apart c.tB1 c.tB0 ∧
      (∀ g : GapClass, apart (gapMark c g) c.tB1 ∧ apart (gapMark c g) c.tB0) ∧
      13 ≤ c.rxCap ∧ c.rxCap ≤ 512 ∧ 9 ≤ c.maxData ∧ c.maxData ≤ 62

/-- The model refuses an instance that is not well formed, at every step (R10; R9's ranges: log entry 6). -/
def Obligations.IllFormedInstanceIsRefused : Prop :=
  ∀ s : State, configWf s.cfg = false → step s = .refused .illFormedConfiguration

/-! ## Tolerance classifier and BCD converter -/

/-- R161: CLASSIFY's word, and its effect on every operand: RES is 1 if 5*ARG0 lies in [4*ARG1, 6*ARG1] and 0 otherwise,
STATUS.ERR and STATUS.EMIT are 0, and nothing else changes. -/
def Obligations.ClassifyComparesWithinTwentyPercent : Prop :=
  decode 0x00000001 = .ok .classify ∧
  ∀ s : State, exec .classify s = .next { s with
    err := .ok, emit := false,
    res := if 5 * s.arg0.toNat ≥ 4 * s.arg1.toNat ∧ 5 * s.arg0.toNat ≤ 6 * s.arg1.toNat then 1 else 0 }

/-- The accepted durations, marked "[derived: from this rule]" in R160, are ceil(4*can/5) to floor(6*can/5); for can up
to 4 that is can alone. -/
def Obligations.ClassifyWindowIsFourToSixFifths : Prop :=
  ∀ obs can : Word,
    (classify obs can = true ↔ (4 * can.toNat + 4) / 5 ≤ obs.toNat ∧ obs.toNat ≤ 6 * can.toNat / 5) ∧
    (can.toNat ≤ 4 → (classify obs can = true ↔ obs = can))

/-- The source's boundary property, quoted in R163, wherever the scaled values are integers below 2^32. -/
def Obligations.ClassifyBoundariesOfTheSource : Prop :=
  ∀ m : Nat, 0 < m → 121 * m < 2 ^ 32 →
    classify (BitVec.ofNat 32 (120 * m)) (BitVec.ofNat 32 (100 * m)) = true ∧
    classify (BitVec.ofNat 32 (80 * m)) (BitVec.ofNat 32 (100 * m)) = true ∧
    classify (BitVec.ofNat 32 (121 * m)) (BitVec.ofNat 32 (100 * m)) = false ∧
    classify (BitVec.ofNat 32 (79 * m)) (BitVec.ofNat 32 (100 * m)) = false

/-- R180: DEC2BCD's word, and its effect: 100 gives 0xFF, 0 to 99 the two digits packed, and above 100 ERR_DOMAIN with
RES unchanged; nothing else changes. -/
def Obligations.Dec2bcdPacksTwoDigits : Prop :=
  decode 0x00000002 = .ok .dec2bcd ∧
  ∀ s : State,
    (s.arg0.toNat = 100 → exec .dec2bcd s = .next { s with err := .ok, emit := false, res := 0x000000FF }) ∧
    (s.arg0.toNat ≤ 99 → exec .dec2bcd s = .next { s with
      err := .ok, emit := false, res := BitVec.ofNat 32 (s.arg0.toNat / 10 * 16 + s.arg0.toNat % 10) }) ∧
    (100 < s.arg0.toNat → exec .dec2bcd s = .next { s with err := .domain, emit := false })

/-- R181: BCD2DEC's word, and its effect: above 0xFF ERR_DOMAIN, 0xFF itself, a nibble above 9 ERR_DOMAIN under REJECT
and hi*10+lo under ARITH, and hi*10+lo for every other byte; nothing else changes. -/
def Obligations.Bcd2decUnpacksTwoDigits : Prop :=
  decode 0x00000003 = .ok .bcd2dec ∧
  ∀ s : State,
    let hi := s.arg0.toNat / 16
    let lo := s.arg0.toNat % 16
    (0xFF < s.arg0.toNat → exec .bcd2dec s = .next { s with err := .domain, emit := false }) ∧
    (s.arg0.toNat = 0xFF → exec .bcd2dec s = .next { s with err := .ok, emit := false, res := 0x000000FF }) ∧
    (s.arg0.toNat < 0xFF → (9 < hi ∨ 9 < lo) → s.cfg.bcd2decInvalid = .reject →
      exec .bcd2dec s = .next { s with err := .domain, emit := false }) ∧
    (s.arg0.toNat < 0xFF → (hi ≤ 9 ∧ lo ≤ 9) ∨ s.cfg.bcd2decInvalid = .arith →
      exec .bcd2dec s = .next { s with err := .ok, emit := false, res := BitVec.ofNat 32 (hi * 10 + lo) })

/-- The laws of R182, marked "[derived: from rules R180 and R181]": BCD2DEC undoes DEC2BCD from 0 to 99, and not at
100. -/
def Obligations.BcdPairInvertsBelowOneHundred : Prop :=
  ∀ s : State, s.arg0.toNat ≤ 100 →
    ∃ t u, exec .dec2bcd s = .next t ∧ exec .bcd2dec { t with arg0 := t.res } = .next u ∧ u.err = .ok ∧
      u.res = (if s.arg0.toNat = 100 then 0xFF else s.arg0) ∧
      u = { s with arg0 := t.res, err := .ok, emit := false, res := u.res }

/-! ## Checksum accumulator -/

/-- R201: CK_START's words, and that it stores ARG0 in the accumulator CKSEL names and changes nothing else. -/
def Obligations.CkStartSetsTheTotal : Prop :=
  decode 0x00000010 = .ok (.ckStart .tx) ∧ decode 0x00000810 = .ok (.ckStart .rx) ∧
  ∀ s : State,
    exec (.ckStart .tx) s = .next { s with err := .ok, emit := false, ckTx := s.arg0 } ∧
    exec (.ckStart .rx) s = .next { s with err := .ok, emit := false, ckRx := s.arg0 }

/-- R202: CK_ACC's words, and that it adds ARG0 to the accumulator CKSEL names, mod 2^32, and changes nothing else. -/
def Obligations.CkAccAddsToTheTotal : Prop :=
  decode 0x00000011 = .ok (.ckAcc .tx) ∧ decode 0x00000811 = .ok (.ckAcc .rx) ∧
  ∀ s : State,
    exec (.ckAcc .tx) s = .next { s with
      err := .ok, emit := false, ckTx := BitVec.ofNat 32 ((s.ckTx.toNat + s.arg0.toNat) % 2 ^ 32) } ∧
    exec (.ckAcc .rx) s = .next { s with
      err := .ok, emit := false, ckRx := BitVec.ofNat 32 ((s.ckRx.toNat + s.arg0.toNat) % 2 ^ 32) }

/-- R203: CK_FINAL's words, and that it reduces the accumulator CKSEL names mod 256, leaves that value with bit 8 set in
RES, and changes nothing else. -/
def Obligations.CkFinalReducesTheTotal : Prop :=
  decode 0x00000012 = .ok (.ckFinal .tx) ∧ decode 0x00000812 = .ok (.ckFinal .rx) ∧
  ∀ s : State,
    exec (.ckFinal .tx) s = .next { s with
      err := .ok, emit := false, ckTx := BitVec.ofNat 32 (s.ckTx.toNat % 256),
      res := BitVec.ofNat 32 (s.ckTx.toNat % 256 + 256) } ∧
    exec (.ckFinal .rx) s = .next { s with
      err := .ok, emit := false, ckRx := BitVec.ofNat 32 (s.ckRx.toNat % 256),
      res := BitVec.ofNat 32 (s.ckRx.toNat % 256 + 256) }

/-- R204: CK_VALID, on either accumulator: of the operand only bit 8 is masked off, so its bits [31:9] must be 0 and
its bits [7:0] the total mod 256. -/
def Obligations.CkValidComparesWithTheTotal : Prop :=
  decode 0x00000013 = .ok (.ckValid .tx) ∧ decode 0x00000813 = .ok (.ckValid .rx) ∧
  ∀ s : State,
    exec (.ckValid .tx) s = .next { s with
      err := .ok, emit := false,
      res := if s.arg0.toNat / 512 = 0 ∧ s.arg0.toNat % 256 = s.ckTx.toNat % 256 then 1 else 0 } ∧
    exec (.ckValid .rx) s = .next { s with
      err := .ok, emit := false,
      res := if s.arg0.toNat / 512 = 0 ∧ s.arg0.toNat % 256 = s.ckRx.toNat % 256 then 1 else 0 }

/-- R205, marked "[derived: from rule R200]": the checksum law on either accumulator. CK_START p, CK_ACC of each d and
CK_FINAL leave the law's value in RES; and an operand with bit 8 set passes CK_VALID after that exactly when it is that
value. -/
def Obligations.ChecksumLawOfTheDirectCommands : Prop :=
  ∀ (sel : CkSel) (s : State) (p x : Word) (ds : List Word),
    ∃ t, runFeeds ((Instr.ckStart sel, p) :: ds.map (fun d => (Instr.ckAcc sel, d)) ++ [(Instr.ckFinal sel, x)]) s =
        some t ∧
      t.err = .ok ∧ t.res.toNat = (p.toNat + (ds.map fun d => d.toNat).sum) % 256 + 256 ∧
      ∀ c : Word, c.getLsbD 8 = true →
        exec (.ckValid sel) { t with arg0 := c } =
          .next { t with arg0 := c, err := .ok, emit := false, res := if c = t.res then 1 else 0 }

/-! ## Pulse codec -/

/-- The field-kind table of R120, column by column, and the durations it selects. That LTAR_BEACON is in family BC is
marked there "[derived: in TP it would share width 9 with PACKET and CHECKSUM". -/
def Obligations.KindTableColumns : Prop :=
  let kinds := [Kind.packet, .data, .checksum, .tag, .beacon, .ltarBeacon]
  kinds.map (fun k => (kindCode k).toNat) = [0, 1, 2, 3, 4, 5] ∧
  kinds.map kindLetter = ['P', 'D', 'C', 'T', 'Z', 'E'] ∧
  kinds.map kindWidth = [9, 8, 9, 7, 5, 9] ∧
  kinds.map (fun k => (kindLow k, kindHigh k)) = [(0, 255), (0, 255), (256, 511), (0, 127), (0, 31), (0, 511)] ∧
  kinds.map kindFamily = [.tp, .tp, .tp, .tp, .bc, .bc] ∧
  kinds.map kindGap = [.field, .field, .cksum, .tag, .field, .field] ∧
  kinds.map kindTerminating = [false, false, true, true, true, true] ∧
  (∀ c : Config, hdr c .tp = c.tHdrTp ∧ hdr c .bc = c.tHdrBc ∧ gapTotal c .field = c.gField ∧
    gapTotal c .tag = c.gTag ∧ gapTotal c .cksum = c.gCksum)

/-- R230: the halves of a gap total. -/
def Obligations.GapHalvesSplitTheTotal : Prop :=
  ∀ (c : Config) (g : GapClass),
    (gapMark c g).toNat = (gapTotal c g).toNat / 2 ∧
    (gapMark c g).toNat + (gapSpace c g).toNat = (gapTotal c g).toNat ∧
    ((gapSpace c g).toNat = (gapMark c g).toNat ∨ (gapSpace c g).toNat = (gapMark c g).toNat + 1)

/-- R122: the train of a legal field, pulse by pulse, and that it ends there. -/
def Obligations.TrainLayoutOfALegalField : Prop :=
  ∀ (c : Config) (k : Kind) (v : Nat), legal k v = true →
    let train := encodeField c k v
    let w := kindWidth k
    train.length = w + 3 + (if kindTerminating k = true then 1 else 0) ∧
    train[0]? = some ⟨c.tPsM, c.tPsS⟩ ∧
    train[1]? = some ⟨hdr c (kindFamily k), c.tHdrS⟩ ∧
    (∀ j, j < w → train[2 + j]? = some ⟨if v / 2 ^ (w - 1 - j) % 2 = 1 then c.tB1 else c.tB0, c.tBs⟩) ∧
    (∃ m sp, train[w + 2]? = some ⟨m, sp⟩ ∧ m.toNat = (gapTotal c (kindGap k)).toNat / 2 ∧
      m.toNat + sp.toNat = (gapTotal c (kindGap k)).toNat) ∧
    (kindTerminating k = true → train[w + 3]? = some ⟨0, 0⟩)

/-- R245: ENC_FIELD of a legal field completes, zeroes TXBUF, writes the train and its length, and changes nothing
else. -/
def Obligations.EncFieldWritesTheTrain : Prop :=
  ∀ (k : Kind) (s : State),
    decode (BitVec.ofNat 32 (0x20 + 256 * (kindCode k).toNat)) = .ok (.encField (kindCode k)) ∧
    (legal k s.arg0.toNat = true →
      exec (.encField (kindCode k)) s = .next { s with
        err := .ok, emit := false,
        txbuf := encodeField s.cfg k s.arg0.toNat ++
          List.replicate (13 - (encodeField s.cfg k s.arg0.toNat).length) ⟨0, 0⟩,
        txlen := (encodeField s.cfg k s.arg0.toNat).length }) ∧
    (legal k s.arg0.toNat = false →
      exec (.encField (kindCode k)) s = .next { s with err := .value, emit := false }) ∧
    (∀ code : BitVec 3, 5 < code.toNat → exec (.encField code) s = .next { s with err := .kind, emit := false })

/-- The decode lookup is the kind table read backwards: R125, marked "[derived: from rule R120]". -/
def Obligations.LookupReadsTheKindTableBackwards : Prop :=
  ∀ (f : Family) (n v : Nat) (k : Kind),
    lookup f n v = some k ↔
      kindFamily k = f ∧ kindWidth k = n ∧ (k = .packet → v < 256) ∧ (k = .checksum → 256 ≤ v)

/-- R260: DEC_FIELD decodes from RXPTR; a field goes to RES and moves RXPTR past it, a failure raises its code. -/
def Obligations.DecFieldWritesTheDecodedField : Prop :=
  decode 0x00000022 = .ok .decField ∧
  ∀ s : State,
    (∀ d, decodeField s.cfg s.rxbuf s.rxlen s.rxptr = .ok d →
      exec .decField s = .next { s with
        err := .ok, emit := false, res := BitVec.ofNat 32 ((kindCode d.kind).toNat * 65536 + d.value), rxptr := d.next } ∧
      d.value < 512 ∧ d.next ≤ s.rxlen) ∧
    (∀ code, decodeField s.cfg s.rxbuf s.rxlen s.rxptr = .error code →
      exec .decField s = .next { s with err := code, emit := false } ∧
      code ∈ [ErrCode.trunc, .presync, .header, .length, .bit, .space, .fieldKind])

/-- The decoder of R252, which DEC_FIELD runs, and the per-pulse machine of R255, marked "[derived: restates rule
R252]", give the same result from every start index, and thirteen transitions always end the machine. -/
def Obligations.DecoderIsThePulseMachine : Prop :=
  ∀ (c : Config) (rx : List Pulse) (rxlen start : Nat), rxlen ≤ rx.length →
    runDecodeMachine c rx rxlen 13 (decodeMachineStart start) = some (decodeField c rx rxlen start)

/-- R252: a decode reads only RX[start .. RXLEN-1]. -/
def Obligations.DecodeReadsOnlyTheValidPulses : Prop :=
  ∀ (c : Config) (rx rx' : List Pulse) (rxlen start : Nat), rxlen ≤ rx.length → rxlen ≤ rx'.length →
    (∀ i, start ≤ i → i < rxlen → rx[i]? = rx'[i]?) →
      decodeField c rx rxlen start = decodeField c rx' rxlen start

/-- R253, marked "[derived: from rule R252]": which failure a decode reports, from any start index, on a train of a
pre-sync, a header, bit pulses and a tail of valid pulses, whatever lies before it and past RXLEN. A mark that is no bit
aborts before any space mismatch is reported; a tenth bit pulse aborts whatever its mark; and when the bits are ended by a
gap pulse, by a sentinel or by the end of valid data, a space mismatch comes before a kind that is not in the lookup. -/
def Obligations.DecodeFailuresInOrder : Prop :=
  (∀ (c : Config) (rx : List Pulse) (rxlen start : Nat), rxlen < start + 2 →
    decodeField c rx rxlen start = .error .trunc) ∧
  ∀ (c : Config) (p h : Pulse) (before bits tail after : List Pulse),
    let result := decodeField c (before ++ [p, h] ++ bits ++ tail ++ after)
      (before.length + 2 + bits.length + tail.length) before.length
    let isBit := fun b : Pulse => isSentinel b = false ∧ isGap c b = false ∧ (bitOf c b).isSome = true
    let ended := tail = [] ∨ ∃ q rest, tail = q :: rest ∧ (isSentinel q = true ∨ isGap c q = true)
    (isPresync c p = false → result = .error .presync) ∧
    (isPresync c p = true → headerFamily c h = none → result = .error .header) ∧
    (∀ f, isPresync c p = true → headerFamily c h = some f → (∀ b ∈ bits, isBit b) →
      (∀ q rest, tail = q :: rest → isSentinel q = false → isGap c q = false →
        (bits.length < 9 → bitOf c q = none → result = .error .bit) ∧
        (bits.length = 9 → result = .error .length)) ∧
      (bits.length ≤ 9 → ended → (∃ b ∈ bits, classify b.space c.tBs = false) → result = .error .space) ∧
      (bits.length ≤ 9 → ended → (∀ b ∈ bits, classify b.space c.tBs = true) →
        (∀ v, lookup f bits.length v = none) → result = .error .fieldKind))

/-- R254: the header pulse's space is not checked. -/
def Obligations.HeaderSpaceIsNotChecked : Prop :=
  ∀ (c : Config) (rx : List Pulse) (rxlen start : Nat) (x : Word),
    decodeField c (rx.modify (start + 1) fun h => { h with space := x }) rxlen start = decodeField c rx rxlen start

/-- R263, marked derived: the round trip at the level of commands. After ENC_FIELD of a legal field, a block of the
same instance that holds the train in RXBUF from index 0, with RXLEN its length and RXPTR 0, decodes it with DEC_FIELD
to the same field and moves RXPTR to its end. -/
def Obligations.EncodedFieldDecodesToItself : Prop :=
  ∀ (k : Kind) (s t u : State), configWf s.cfg = true → legal k s.arg0.toNat = true →
    exec (.encField (kindCode k)) s = .next t →
    u.cfg = s.cfg → u.rxlen = t.txlen → u.rxptr = 0 → u.rxbuf.take t.txlen = t.txbuf.take t.txlen →
      exec .decField u = .next { u with
        err := .ok, emit := false, res := BitVec.ofNat 32 ((kindCode k).toNat * 65536 + s.arg0.toNat),
        rxptr := t.txlen }

/-- R264, marked derived: noise within tolerance. A train in which every duration classifies against the encoder's, a
sentinel being exactly (0, 0) since only 0 classifies against 0, decodes to the same field. -/
def Obligations.NoisyTrainDecodesToTheField : Prop :=
  ∀ (c : Config) (k : Kind) (v : Nat) (train : List Pulse), configWf c = true → legal k v = true →
    List.Forall₂ (fun q p => classify q.mark p.mark = true ∧ classify q.space p.space = true) train (encodeField c k v) →
      decodeField c train train.length 0 = .ok ⟨k, v, train.length⟩

/-- R262, marked "[derived: from rules R240 and R252]": trains held back to back decode in turn. A train that starts at
any index of RXBUF and is followed by nothing or by a pulse that is no sentinel decodes to its field and leaves the
index just past it. -/
def Obligations.ConcatenatedTrainsDecodeInTurn : Prop :=
  ∀ (c : Config) (k : Kind) (v : Nat) (before rest : List Pulse), configWf c = true → legal k v = true →
    startsWithSentinel rest = false →
      decodeField c (before ++ encodeField c k v ++ rest) (before.length + (encodeField c k v).length + rest.length)
          before.length =
        .ok ⟨k, v, before.length + (encodeField c k v).length⟩

/-! ## Message-frame assembler -/

/-- R281: ENC_FEED's words, and its effect kind by kind: the train in TXBUF, the total in CK_TX, the field in RES, and
ERR_VALUE or ERR_KIND with nothing else changed. -/
def Obligations.EncFeedEncodesAndTracksTheChecksum : Prop :=
  ∀ s : State,
    let fed := fun (k : Kind) (v : Nat) (total : Word) => Host.Outcome.next (φ := Fault) (ρ := Refusal) { s with
      err := .ok, emit := false, ckTx := total,
      txbuf := encodeField s.cfg k v ++ List.replicate (13 - (encodeField s.cfg k v).length) ⟨0, 0⟩,
      txlen := (encodeField s.cfg k v).length, res := BitVec.ofNat 32 ((kindCode k).toNat * 65536 + v) }
    (∀ k, decode (BitVec.ofNat 32 (0x21 + 256 * (kindCode k).toNat)) = .ok (.encFeed (kindCode k))) ∧
    exec (.encFeed (kindCode .checksum)) s =
      fed .checksum (s.ckTx.toNat % 256 + 256) (BitVec.ofNat 32 (s.ckTx.toNat % 256)) ∧
    (legal .packet s.arg0.toNat = true →
      exec (.encFeed (kindCode .packet)) s = fed .packet s.arg0.toNat s.arg0) ∧
    (legal .data s.arg0.toNat = true →
      exec (.encFeed (kindCode .data)) s =
        fed .data s.arg0.toNat (BitVec.ofNat 32 ((s.ckTx.toNat + s.arg0.toNat) % 2 ^ 32))) ∧
    (∀ k, k = .tag ∨ k = .beacon ∨ k = .ltarBeacon → legal k s.arg0.toNat = true →
      exec (.encFeed (kindCode k)) s = fed k s.arg0.toNat s.ckTx) ∧
    (∀ k, k ≠ .checksum → legal k s.arg0.toNat = false →
      exec (.encFeed (kindCode k)) s = .next { s with err := .value, emit := false }) ∧
    (∀ code : BitVec 3, 5 < code.toNat → exec (.encFeed code) s = .next { s with err := .kind, emit := false })

/-- The encode recipe law of R282, marked derived: ENC_FEED of a PACKET p, of DATA fields and of a CHECKSUM encodes the
CHECKSUM ((p + their sum) mod 256) | 256, whatever ARG0 the CHECKSUM feed finds and whatever commands that leave CK_TX alone
come after the PACKET and after each DATA. Every command is one of those but CK_START, CK_ACC and CK_FINAL on CK_TX and
ENC_FEED of a PACKET, a DATA or a CHECKSUM. -/
def Obligations.EncodeRecipeSendsTheChecksum : Prop :=
  let keepsCkTx := fun f : Instr × Word => ∀ u t : State, exec f.1 (u.setArg0 f.2) = .next t → t.ckTx = u.ckTx
  (∀ f : Instr × Word, f.1 ∉ [.ckStart .tx, .ckAcc .tx, .ckFinal .tx, .encFeed 0, .encFeed 1, .encFeed 2] → keepsCkTx f) ∧
  ∀ (s : State) (p x : Word) (others : List (Instr × Word)) (ds : List (Word × List (Instr × Word))),
    p.toNat ≤ 255 → (∀ d ∈ ds, d.1.toNat ≤ 255) → (∀ f ∈ others, keepsCkTx f) → (∀ d ∈ ds, ∀ f ∈ d.2, keepsCkTx f) →
    ∃ t, runFeeds ((Instr.encFeed 0, p) :: others ++ ds.flatMap (fun d => (Instr.encFeed 1, d.1) :: d.2) ++
          [(Instr.encFeed 2, x)]) s = some t ∧
      t.err = .ok ∧
      t.res.toNat = 2 * 65536 + ((p.toNat + (ds.map fun d => d.1.toNat).sum) % 256 + 256) ∧
      t.txbuf = encodeField s.cfg .checksum ((p.toNat + (ds.map fun d => d.1.toNat).sum) % 256 + 256) ∧ t.txlen = 13

/-- R290: ASM_FEED, row by row of its transition table, with its two raised errors. -/
def Obligations.AsmFeedFollowsTheTransitionTable : Prop :=
  ∀ s : State,
    let v := s.arg0
    let discarded := fun e : ErrCode => Host.Outcome.next (φ := Fault) (ρ := Refusal)
      { s with err := e, emit := false, cur := [], asm := .idle, ckRx := 0 }
    let single := fun k : Kind => k = .tag ∨ k = .beacon ∨ k = .ltarBeacon
    (∀ k, decode (BitVec.ofNat 32 (0x30 + 256 * (kindCode k).toNat)) = .ok (.asmFeed (kindCode k))) ∧
    (s.asm = .idle → legal .packet v.toNat = true →
      exec (.asmFeed (kindCode .packet)) s = .next { s with
        err := .ok, emit := false, asm := .inMessage, cur := [⟨.packet, BitVec.ofNat 9 v.toNat⟩], ckRx := v }) ∧
    (∀ k, s.asm = .idle → k = .data ∨ k = .checksum → legal k v.toNat = true →
      exec (.asmFeed (kindCode k)) s = discarded .seq) ∧
    (∀ k, s.asm = .idle → single k → legal k v.toNat = true →
      exec (.asmFeed (kindCode k)) s = .next { s with
        err := .ok, emit := true, msgout := [⟨k, BitVec.ofNat 9 v.toNat⟩] }) ∧
    (s.asm = .inMessage → legal .data v.toNat = true → s.cur.length ≠ s.cfg.maxData + 1 →
      exec (.asmFeed (kindCode .data)) s = .next { s with
        err := .ok, emit := false, cur := s.cur ++ [⟨.data, BitVec.ofNat 9 v.toNat⟩],
        ckRx := BitVec.ofNat 32 ((s.ckRx.toNat + v.toNat) % 2 ^ 32) }) ∧
    (s.asm = .inMessage → legal .data v.toNat = true → s.cur.length = s.cfg.maxData + 1 →
      exec (.asmFeed (kindCode .data)) s = discarded .overflow) ∧
    (s.asm = .inMessage → legal .checksum v.toNat = true → v.toNat % 256 = s.ckRx.toNat % 256 →
      exec (.asmFeed (kindCode .checksum)) s = .next { s with
        err := .ok, emit := true, msgout := s.cur ++ [⟨.checksum, BitVec.ofNat 9 v.toNat⟩], cur := [], asm := .idle }) ∧
    (s.asm = .inMessage → legal .checksum v.toNat = true → v.toNat % 256 ≠ s.ckRx.toNat % 256 →
      exec (.asmFeed (kindCode .checksum)) s = discarded .cksum) ∧
    (s.asm = .inMessage → legal .packet v.toNat = true → s.cfg.packetRestart = .drop →
      exec (.asmFeed (kindCode .packet)) s = discarded .seq) ∧
    (s.asm = .inMessage → legal .packet v.toNat = true → s.cfg.packetRestart = .restart →
      exec (.asmFeed (kindCode .packet)) s = .next { s with
        err := .seq, emit := false, asm := .inMessage, cur := [⟨.packet, BitVec.ofNat 9 v.toNat⟩], ckRx := v }) ∧
    (∀ k, s.asm = .inMessage → single k → legal k v.toNat = true →
      exec (.asmFeed (kindCode k)) s = discarded .seq) ∧
    (∀ k, legal k v.toNat = false →
      exec (.asmFeed (kindCode k)) s = .next { s with err := .value, emit := false }) ∧
    (∀ code : BitVec 3, 5 < code.toNat → exec (.asmFeed code) s = .next { s with err := .kind, emit := false })

/-- R300: ASM_RESET's word, and that it empties CUR, returns the assembler to IDLE, zeroes CK_RX and changes nothing else
but STATUS. -/
def Obligations.AsmResetDropsTheMessage : Prop :=
  decode 0x00000031 = .ok .asmReset ∧
  ∀ s : State, exec .asmReset s = .next { s with err := .ok, emit := false, cur := [], asm := .idle, ckRx := 0 }

/-- A PACKET, at most MAX_DATA DATA fields and the CHECKSUM of R205, fed to an idle assembler, are delivered whole in
MSGOUT by the last feed; with any other CHECKSUM the message is discarded whole and MSGOUT stays. -/
def Obligations.FedMessageIsDeliveredOrDiscarded : Prop :=
  ∀ (s : State) (p ck : Word) (ds : List Word), s.asm = .idle → p.toNat ≤ 255 → (∀ d ∈ ds, d.toNat ≤ 255) →
    ds.length ≤ s.cfg.maxData → 256 ≤ ck.toNat → ck.toNat ≤ 511 →
    ∃ t, runFeeds ((Instr.asmFeed 0, p) :: ds.map (fun d => (Instr.asmFeed 1, d)) ++ [(Instr.asmFeed 2, ck)]) s = some t ∧
      t.asm = .idle ∧ t.cur = [] ∧
      (if ck.toNat = (p.toNat + (ds.map fun d => d.toNat).sum) % 256 + 256 then
        t.err = .ok ∧ t.emit = true ∧
        t.msgout = mkField .packet p.toNat :: ds.map (fun d => mkField .data d.toNat) ++ [mkField .checksum ck.toNat]
      else t.err = .cksum ∧ t.emit = false ∧ t.msgout = s.msgout ∧ t.ckRx = 0)

/-- The codec end to end: the trains of a PACKET, its DATA fields and their CHECKSUM, held back to back in RXBUF,
decoded one by one from RXPTR and fed to an idle assembler by the receive loop, deliver that message in MSGOUT and
leave RXPTR at the end of the last train. The loop is the host's (log entry 10). -/
def Obligations.SentMessageIsReceived : Prop :=
  ∀ (s : State) (p : Nat) (ds : List Nat) (start : Nat),
    let ck := (p + ds.sum) % 256 + 256
    let fields := (Kind.packet, p) :: ds.map (fun d => (Kind.data, d)) ++ [(Kind.checksum, ck)]
    let air := messageTrain s.cfg fields
    configWf s.cfg = true → p ≤ 255 → (∀ d ∈ ds, d ≤ 255) → ds.length ≤ s.cfg.maxData → s.asm = .idle →
    s.rxptr = start → s.rxlen = start + air.length → (s.rxbuf.take s.rxlen).drop start = air →
      ∃ t, receiveFields (ds.length + 2) s = some t ∧ t.err = .ok ∧ t.emit = true ∧ t.asm = .idle ∧ t.cur = [] ∧
        t.rxptr = s.rxlen ∧ t.msgout = fields.map fun f => mkField f.1 f.2

/-! ## Host notation -/

/-- R131: the accesses LOADRX expands to put the pulses in RXBUF from index 0, their number in RXLEN and 0 in RXPTR,
and change nothing else of the block. -/
def Obligations.LoadRxLoadsThePulses : Prop :=
  ∀ (s : State) (ps : List Pulse), configWf s.cfg = true → Memory.wf s = true → ps.length ≤ s.cfg.rxCap →
    s.host = expandLine (.loadRx ps) →
      Reaches s { s with
        host := [], hostIndex := s.hostIndex + (2 * ps.length + 2), rxbuf := ps ++ s.rxbuf.drop ps.length,
        rxlen := ps.length, rxptr := 0 }

/-- Run on a well-formed instance from any state, the token lines of a PACKET, of DATA fields and of a CHECKSUM,
expanded as R131 says, leave the train of the computed CHECKSUM in TXBUF, whatever value the CHECKSUM token carries. -/
def Obligations.TokensSendTheComputedChecksum : Prop :=
  ∀ (s : State) (p x : Word) (ds : List Word), configWf s.cfg = true → p.toNat ≤ 255 → (∀ d ∈ ds, d.toNat ≤ 255) →
    s.host = expandLines (.token .packet p :: ds.map (fun d => .token .data d) ++ [.token .checksum x]) →
      ∃ t, Reaches s t ∧ t.host = [] ∧ t.err = .ok ∧
        t.txbuf = encodeField s.cfg .checksum ((p.toNat + (ds.map fun d => d.toNat).sum) % 256 + 256) ∧ t.txlen = 13
end

