-- ==== Sys2Proof/Laws/State.lean ====
section
/-! SUPPORT. Each state update read back, one lemma per field: what the update writes, and that it writes nothing else. -/

namespace Sys2Proof.Machine

variable (s : State)

/-! `State.startCommand` -/

@[simp] theorem State.startCommand_cfg : (s.startCommand).cfg = s.cfg := rfl
@[simp] theorem State.startCommand_cmd : (s.startCommand).cmd = s.cmd := rfl
@[simp] theorem State.startCommand_arg0 : (s.startCommand).arg0 = s.arg0 := rfl
@[simp] theorem State.startCommand_arg1 : (s.startCommand).arg1 = s.arg1 := rfl
@[simp] theorem State.startCommand_res : (s.startCommand).res = s.res := rfl
@[simp] theorem State.startCommand_err : (s.startCommand).err = .ok := rfl
@[simp] theorem State.startCommand_emit : (s.startCommand).emit = false := rfl
@[simp] theorem State.startCommand_asm : (s.startCommand).asm = s.asm := rfl
@[simp] theorem State.startCommand_ckTx : (s.startCommand).ckTx = s.ckTx := rfl
@[simp] theorem State.startCommand_ckRx : (s.startCommand).ckRx = s.ckRx := rfl
@[simp] theorem State.startCommand_txbuf : (s.startCommand).txbuf = s.txbuf := rfl
@[simp] theorem State.startCommand_txlen : (s.startCommand).txlen = s.txlen := rfl
@[simp] theorem State.startCommand_rxbuf : (s.startCommand).rxbuf = s.rxbuf := rfl
@[simp] theorem State.startCommand_rxlen : (s.startCommand).rxlen = s.rxlen := rfl
@[simp] theorem State.startCommand_rxptr : (s.startCommand).rxptr = s.rxptr := rfl
@[simp] theorem State.startCommand_cur : (s.startCommand).cur = s.cur := rfl
@[simp] theorem State.startCommand_msgout : (s.startCommand).msgout = s.msgout := rfl
@[simp] theorem State.startCommand_host : (s.startCommand).host = s.host := rfl
@[simp] theorem State.startCommand_hostIndex : (s.startCommand).hostIndex = s.hostIndex := rfl
@[simp] theorem State.startCommand_reads : (s.startCommand).reads = s.reads := rfl
@[simp] theorem State.startCommand_resets : (s.startCommand).resets = s.resets := rfl

/-! `State.raise` -/

@[simp] theorem State.raise_cfg (code : ErrCode) : (s.raise code).cfg = s.cfg := rfl
@[simp] theorem State.raise_cmd (code : ErrCode) : (s.raise code).cmd = s.cmd := rfl
@[simp] theorem State.raise_arg0 (code : ErrCode) : (s.raise code).arg0 = s.arg0 := rfl
@[simp] theorem State.raise_arg1 (code : ErrCode) : (s.raise code).arg1 = s.arg1 := rfl
@[simp] theorem State.raise_res (code : ErrCode) : (s.raise code).res = s.res := rfl
@[simp] theorem State.raise_err (code : ErrCode) : (s.raise code).err = code := rfl
@[simp] theorem State.raise_emit (code : ErrCode) : (s.raise code).emit = false := rfl
@[simp] theorem State.raise_asm (code : ErrCode) : (s.raise code).asm = s.asm := rfl
@[simp] theorem State.raise_ckTx (code : ErrCode) : (s.raise code).ckTx = s.ckTx := rfl
@[simp] theorem State.raise_ckRx (code : ErrCode) : (s.raise code).ckRx = s.ckRx := rfl
@[simp] theorem State.raise_txbuf (code : ErrCode) : (s.raise code).txbuf = s.txbuf := rfl
@[simp] theorem State.raise_txlen (code : ErrCode) : (s.raise code).txlen = s.txlen := rfl
@[simp] theorem State.raise_rxbuf (code : ErrCode) : (s.raise code).rxbuf = s.rxbuf := rfl
@[simp] theorem State.raise_rxlen (code : ErrCode) : (s.raise code).rxlen = s.rxlen := rfl
@[simp] theorem State.raise_rxptr (code : ErrCode) : (s.raise code).rxptr = s.rxptr := rfl
@[simp] theorem State.raise_cur (code : ErrCode) : (s.raise code).cur = s.cur := rfl
@[simp] theorem State.raise_msgout (code : ErrCode) : (s.raise code).msgout = s.msgout := rfl
@[simp] theorem State.raise_host (code : ErrCode) : (s.raise code).host = s.host := rfl
@[simp] theorem State.raise_hostIndex (code : ErrCode) : (s.raise code).hostIndex = s.hostIndex := rfl
@[simp] theorem State.raise_reads (code : ErrCode) : (s.raise code).reads = s.reads := rfl
@[simp] theorem State.raise_resets (code : ErrCode) : (s.raise code).resets = s.resets := rfl

/-! `State.report` -/

@[simp] theorem State.report_cfg (code : ErrCode) : (s.report code).cfg = s.cfg := rfl
@[simp] theorem State.report_cmd (code : ErrCode) : (s.report code).cmd = s.cmd := rfl
@[simp] theorem State.report_arg0 (code : ErrCode) : (s.report code).arg0 = s.arg0 := rfl
@[simp] theorem State.report_arg1 (code : ErrCode) : (s.report code).arg1 = s.arg1 := rfl
@[simp] theorem State.report_res (code : ErrCode) : (s.report code).res = s.res := rfl
@[simp] theorem State.report_err (code : ErrCode) : (s.report code).err = code := rfl
@[simp] theorem State.report_emit (code : ErrCode) : (s.report code).emit = s.emit := rfl
@[simp] theorem State.report_asm (code : ErrCode) : (s.report code).asm = s.asm := rfl
@[simp] theorem State.report_ckTx (code : ErrCode) : (s.report code).ckTx = s.ckTx := rfl
@[simp] theorem State.report_ckRx (code : ErrCode) : (s.report code).ckRx = s.ckRx := rfl
@[simp] theorem State.report_txbuf (code : ErrCode) : (s.report code).txbuf = s.txbuf := rfl
@[simp] theorem State.report_txlen (code : ErrCode) : (s.report code).txlen = s.txlen := rfl
@[simp] theorem State.report_rxbuf (code : ErrCode) : (s.report code).rxbuf = s.rxbuf := rfl
@[simp] theorem State.report_rxlen (code : ErrCode) : (s.report code).rxlen = s.rxlen := rfl
@[simp] theorem State.report_rxptr (code : ErrCode) : (s.report code).rxptr = s.rxptr := rfl
@[simp] theorem State.report_cur (code : ErrCode) : (s.report code).cur = s.cur := rfl
@[simp] theorem State.report_msgout (code : ErrCode) : (s.report code).msgout = s.msgout := rfl
@[simp] theorem State.report_host (code : ErrCode) : (s.report code).host = s.host := rfl
@[simp] theorem State.report_hostIndex (code : ErrCode) : (s.report code).hostIndex = s.hostIndex := rfl
@[simp] theorem State.report_reads (code : ErrCode) : (s.report code).reads = s.reads := rfl
@[simp] theorem State.report_resets (code : ErrCode) : (s.report code).resets = s.resets := rfl

/-! `State.storeCmd` -/

@[simp] theorem State.storeCmd_cfg (w : Word) : (s.storeCmd w).cfg = s.cfg := rfl
@[simp] theorem State.storeCmd_cmd (w : Word) : (s.storeCmd w).cmd = w := rfl
@[simp] theorem State.storeCmd_arg0 (w : Word) : (s.storeCmd w).arg0 = s.arg0 := rfl
@[simp] theorem State.storeCmd_arg1 (w : Word) : (s.storeCmd w).arg1 = s.arg1 := rfl
@[simp] theorem State.storeCmd_res (w : Word) : (s.storeCmd w).res = s.res := rfl
@[simp] theorem State.storeCmd_err (w : Word) : (s.storeCmd w).err = s.err := rfl
@[simp] theorem State.storeCmd_emit (w : Word) : (s.storeCmd w).emit = s.emit := rfl
@[simp] theorem State.storeCmd_asm (w : Word) : (s.storeCmd w).asm = s.asm := rfl
@[simp] theorem State.storeCmd_ckTx (w : Word) : (s.storeCmd w).ckTx = s.ckTx := rfl
@[simp] theorem State.storeCmd_ckRx (w : Word) : (s.storeCmd w).ckRx = s.ckRx := rfl
@[simp] theorem State.storeCmd_txbuf (w : Word) : (s.storeCmd w).txbuf = s.txbuf := rfl
@[simp] theorem State.storeCmd_txlen (w : Word) : (s.storeCmd w).txlen = s.txlen := rfl
@[simp] theorem State.storeCmd_rxbuf (w : Word) : (s.storeCmd w).rxbuf = s.rxbuf := rfl
@[simp] theorem State.storeCmd_rxlen (w : Word) : (s.storeCmd w).rxlen = s.rxlen := rfl
@[simp] theorem State.storeCmd_rxptr (w : Word) : (s.storeCmd w).rxptr = s.rxptr := rfl
@[simp] theorem State.storeCmd_cur (w : Word) : (s.storeCmd w).cur = s.cur := rfl
@[simp] theorem State.storeCmd_msgout (w : Word) : (s.storeCmd w).msgout = s.msgout := rfl
@[simp] theorem State.storeCmd_host (w : Word) : (s.storeCmd w).host = s.host := rfl
@[simp] theorem State.storeCmd_hostIndex (w : Word) : (s.storeCmd w).hostIndex = s.hostIndex := rfl
@[simp] theorem State.storeCmd_reads (w : Word) : (s.storeCmd w).reads = s.reads := rfl
@[simp] theorem State.storeCmd_resets (w : Word) : (s.storeCmd w).resets = s.resets := rfl

/-! `State.setArg0` -/

@[simp] theorem State.setArg0_cfg (v : Word) : (s.setArg0 v).cfg = s.cfg := rfl
@[simp] theorem State.setArg0_cmd (v : Word) : (s.setArg0 v).cmd = s.cmd := rfl
@[simp] theorem State.setArg0_arg0 (v : Word) : (s.setArg0 v).arg0 = v := rfl
@[simp] theorem State.setArg0_arg1 (v : Word) : (s.setArg0 v).arg1 = s.arg1 := rfl
@[simp] theorem State.setArg0_res (v : Word) : (s.setArg0 v).res = s.res := rfl
@[simp] theorem State.setArg0_err (v : Word) : (s.setArg0 v).err = s.err := rfl
@[simp] theorem State.setArg0_emit (v : Word) : (s.setArg0 v).emit = s.emit := rfl
@[simp] theorem State.setArg0_asm (v : Word) : (s.setArg0 v).asm = s.asm := rfl
@[simp] theorem State.setArg0_ckTx (v : Word) : (s.setArg0 v).ckTx = s.ckTx := rfl
@[simp] theorem State.setArg0_ckRx (v : Word) : (s.setArg0 v).ckRx = s.ckRx := rfl
@[simp] theorem State.setArg0_txbuf (v : Word) : (s.setArg0 v).txbuf = s.txbuf := rfl
@[simp] theorem State.setArg0_txlen (v : Word) : (s.setArg0 v).txlen = s.txlen := rfl
@[simp] theorem State.setArg0_rxbuf (v : Word) : (s.setArg0 v).rxbuf = s.rxbuf := rfl
@[simp] theorem State.setArg0_rxlen (v : Word) : (s.setArg0 v).rxlen = s.rxlen := rfl
@[simp] theorem State.setArg0_rxptr (v : Word) : (s.setArg0 v).rxptr = s.rxptr := rfl
@[simp] theorem State.setArg0_cur (v : Word) : (s.setArg0 v).cur = s.cur := rfl
@[simp] theorem State.setArg0_msgout (v : Word) : (s.setArg0 v).msgout = s.msgout := rfl
@[simp] theorem State.setArg0_host (v : Word) : (s.setArg0 v).host = s.host := rfl
@[simp] theorem State.setArg0_hostIndex (v : Word) : (s.setArg0 v).hostIndex = s.hostIndex := rfl
@[simp] theorem State.setArg0_reads (v : Word) : (s.setArg0 v).reads = s.reads := rfl
@[simp] theorem State.setArg0_resets (v : Word) : (s.setArg0 v).resets = s.resets := rfl

/-! `State.setArg1` -/

@[simp] theorem State.setArg1_cfg (v : Word) : (s.setArg1 v).cfg = s.cfg := rfl
@[simp] theorem State.setArg1_cmd (v : Word) : (s.setArg1 v).cmd = s.cmd := rfl
@[simp] theorem State.setArg1_arg0 (v : Word) : (s.setArg1 v).arg0 = s.arg0 := rfl
@[simp] theorem State.setArg1_arg1 (v : Word) : (s.setArg1 v).arg1 = v := rfl
@[simp] theorem State.setArg1_res (v : Word) : (s.setArg1 v).res = s.res := rfl
@[simp] theorem State.setArg1_err (v : Word) : (s.setArg1 v).err = s.err := rfl
@[simp] theorem State.setArg1_emit (v : Word) : (s.setArg1 v).emit = s.emit := rfl
@[simp] theorem State.setArg1_asm (v : Word) : (s.setArg1 v).asm = s.asm := rfl
@[simp] theorem State.setArg1_ckTx (v : Word) : (s.setArg1 v).ckTx = s.ckTx := rfl
@[simp] theorem State.setArg1_ckRx (v : Word) : (s.setArg1 v).ckRx = s.ckRx := rfl
@[simp] theorem State.setArg1_txbuf (v : Word) : (s.setArg1 v).txbuf = s.txbuf := rfl
@[simp] theorem State.setArg1_txlen (v : Word) : (s.setArg1 v).txlen = s.txlen := rfl
@[simp] theorem State.setArg1_rxbuf (v : Word) : (s.setArg1 v).rxbuf = s.rxbuf := rfl
@[simp] theorem State.setArg1_rxlen (v : Word) : (s.setArg1 v).rxlen = s.rxlen := rfl
@[simp] theorem State.setArg1_rxptr (v : Word) : (s.setArg1 v).rxptr = s.rxptr := rfl
@[simp] theorem State.setArg1_cur (v : Word) : (s.setArg1 v).cur = s.cur := rfl
@[simp] theorem State.setArg1_msgout (v : Word) : (s.setArg1 v).msgout = s.msgout := rfl
@[simp] theorem State.setArg1_host (v : Word) : (s.setArg1 v).host = s.host := rfl
@[simp] theorem State.setArg1_hostIndex (v : Word) : (s.setArg1 v).hostIndex = s.hostIndex := rfl
@[simp] theorem State.setArg1_reads (v : Word) : (s.setArg1 v).reads = s.reads := rfl
@[simp] theorem State.setArg1_resets (v : Word) : (s.setArg1 v).resets = s.resets := rfl

/-! `State.setRes` -/

@[simp] theorem State.setRes_cfg (v : Word) : (s.setRes v).cfg = s.cfg := rfl
@[simp] theorem State.setRes_cmd (v : Word) : (s.setRes v).cmd = s.cmd := rfl
@[simp] theorem State.setRes_arg0 (v : Word) : (s.setRes v).arg0 = s.arg0 := rfl
@[simp] theorem State.setRes_arg1 (v : Word) : (s.setRes v).arg1 = s.arg1 := rfl
@[simp] theorem State.setRes_res (v : Word) : (s.setRes v).res = v := rfl
@[simp] theorem State.setRes_err (v : Word) : (s.setRes v).err = s.err := rfl
@[simp] theorem State.setRes_emit (v : Word) : (s.setRes v).emit = s.emit := rfl
@[simp] theorem State.setRes_asm (v : Word) : (s.setRes v).asm = s.asm := rfl
@[simp] theorem State.setRes_ckTx (v : Word) : (s.setRes v).ckTx = s.ckTx := rfl
@[simp] theorem State.setRes_ckRx (v : Word) : (s.setRes v).ckRx = s.ckRx := rfl
@[simp] theorem State.setRes_txbuf (v : Word) : (s.setRes v).txbuf = s.txbuf := rfl
@[simp] theorem State.setRes_txlen (v : Word) : (s.setRes v).txlen = s.txlen := rfl
@[simp] theorem State.setRes_rxbuf (v : Word) : (s.setRes v).rxbuf = s.rxbuf := rfl
@[simp] theorem State.setRes_rxlen (v : Word) : (s.setRes v).rxlen = s.rxlen := rfl
@[simp] theorem State.setRes_rxptr (v : Word) : (s.setRes v).rxptr = s.rxptr := rfl
@[simp] theorem State.setRes_cur (v : Word) : (s.setRes v).cur = s.cur := rfl
@[simp] theorem State.setRes_msgout (v : Word) : (s.setRes v).msgout = s.msgout := rfl
@[simp] theorem State.setRes_host (v : Word) : (s.setRes v).host = s.host := rfl
@[simp] theorem State.setRes_hostIndex (v : Word) : (s.setRes v).hostIndex = s.hostIndex := rfl
@[simp] theorem State.setRes_reads (v : Word) : (s.setRes v).reads = s.reads := rfl
@[simp] theorem State.setRes_resets (v : Word) : (s.setRes v).resets = s.resets := rfl

/-! `State.setRxlen` -/

@[simp] theorem State.setRxlen_cfg (v : Word) : (s.setRxlen v).cfg = s.cfg := rfl
@[simp] theorem State.setRxlen_cmd (v : Word) : (s.setRxlen v).cmd = s.cmd := rfl
@[simp] theorem State.setRxlen_arg0 (v : Word) : (s.setRxlen v).arg0 = s.arg0 := rfl
@[simp] theorem State.setRxlen_arg1 (v : Word) : (s.setRxlen v).arg1 = s.arg1 := rfl
@[simp] theorem State.setRxlen_res (v : Word) : (s.setRxlen v).res = s.res := rfl
@[simp] theorem State.setRxlen_err (v : Word) : (s.setRxlen v).err = s.err := rfl
@[simp] theorem State.setRxlen_emit (v : Word) : (s.setRxlen v).emit = s.emit := rfl
@[simp] theorem State.setRxlen_asm (v : Word) : (s.setRxlen v).asm = s.asm := rfl
@[simp] theorem State.setRxlen_ckTx (v : Word) : (s.setRxlen v).ckTx = s.ckTx := rfl
@[simp] theorem State.setRxlen_ckRx (v : Word) : (s.setRxlen v).ckRx = s.ckRx := rfl
@[simp] theorem State.setRxlen_txbuf (v : Word) : (s.setRxlen v).txbuf = s.txbuf := rfl
@[simp] theorem State.setRxlen_txlen (v : Word) : (s.setRxlen v).txlen = s.txlen := rfl
@[simp] theorem State.setRxlen_rxbuf (v : Word) : (s.setRxlen v).rxbuf = s.rxbuf := rfl
@[simp] theorem State.setRxlen_rxlen (v : Word) : (s.setRxlen v).rxlen = min v.toNat s.cfg.rxCap := rfl
@[simp] theorem State.setRxlen_rxptr (v : Word) : (s.setRxlen v).rxptr = s.rxptr := rfl
@[simp] theorem State.setRxlen_cur (v : Word) : (s.setRxlen v).cur = s.cur := rfl
@[simp] theorem State.setRxlen_msgout (v : Word) : (s.setRxlen v).msgout = s.msgout := rfl
@[simp] theorem State.setRxlen_host (v : Word) : (s.setRxlen v).host = s.host := rfl
@[simp] theorem State.setRxlen_hostIndex (v : Word) : (s.setRxlen v).hostIndex = s.hostIndex := rfl
@[simp] theorem State.setRxlen_reads (v : Word) : (s.setRxlen v).reads = s.reads := rfl
@[simp] theorem State.setRxlen_resets (v : Word) : (s.setRxlen v).resets = s.resets := rfl

/-! `State.setRxptr` -/

@[simp] theorem State.setRxptr_cfg (v : Word) : (s.setRxptr v).cfg = s.cfg := rfl
@[simp] theorem State.setRxptr_cmd (v : Word) : (s.setRxptr v).cmd = s.cmd := rfl
@[simp] theorem State.setRxptr_arg0 (v : Word) : (s.setRxptr v).arg0 = s.arg0 := rfl
@[simp] theorem State.setRxptr_arg1 (v : Word) : (s.setRxptr v).arg1 = s.arg1 := rfl
@[simp] theorem State.setRxptr_res (v : Word) : (s.setRxptr v).res = s.res := rfl
@[simp] theorem State.setRxptr_err (v : Word) : (s.setRxptr v).err = s.err := rfl
@[simp] theorem State.setRxptr_emit (v : Word) : (s.setRxptr v).emit = s.emit := rfl
@[simp] theorem State.setRxptr_asm (v : Word) : (s.setRxptr v).asm = s.asm := rfl
@[simp] theorem State.setRxptr_ckTx (v : Word) : (s.setRxptr v).ckTx = s.ckTx := rfl
@[simp] theorem State.setRxptr_ckRx (v : Word) : (s.setRxptr v).ckRx = s.ckRx := rfl
@[simp] theorem State.setRxptr_txbuf (v : Word) : (s.setRxptr v).txbuf = s.txbuf := rfl
@[simp] theorem State.setRxptr_txlen (v : Word) : (s.setRxptr v).txlen = s.txlen := rfl
@[simp] theorem State.setRxptr_rxbuf (v : Word) : (s.setRxptr v).rxbuf = s.rxbuf := rfl
@[simp] theorem State.setRxptr_rxlen (v : Word) : (s.setRxptr v).rxlen = s.rxlen := rfl
@[simp] theorem State.setRxptr_rxptr (v : Word) : (s.setRxptr v).rxptr = min v.toNat s.cfg.rxCap := rfl
@[simp] theorem State.setRxptr_cur (v : Word) : (s.setRxptr v).cur = s.cur := rfl
@[simp] theorem State.setRxptr_msgout (v : Word) : (s.setRxptr v).msgout = s.msgout := rfl
@[simp] theorem State.setRxptr_host (v : Word) : (s.setRxptr v).host = s.host := rfl
@[simp] theorem State.setRxptr_hostIndex (v : Word) : (s.setRxptr v).hostIndex = s.hostIndex := rfl
@[simp] theorem State.setRxptr_reads (v : Word) : (s.setRxptr v).reads = s.reads := rfl
@[simp] theorem State.setRxptr_resets (v : Word) : (s.setRxptr v).resets = s.resets := rfl

/-! `State.advanceRxptr` -/

@[simp] theorem State.advanceRxptr_cfg (next : Nat) : (s.advanceRxptr next).cfg = s.cfg := rfl
@[simp] theorem State.advanceRxptr_cmd (next : Nat) : (s.advanceRxptr next).cmd = s.cmd := rfl
@[simp] theorem State.advanceRxptr_arg0 (next : Nat) : (s.advanceRxptr next).arg0 = s.arg0 := rfl
@[simp] theorem State.advanceRxptr_arg1 (next : Nat) : (s.advanceRxptr next).arg1 = s.arg1 := rfl
@[simp] theorem State.advanceRxptr_res (next : Nat) : (s.advanceRxptr next).res = s.res := rfl
@[simp] theorem State.advanceRxptr_err (next : Nat) : (s.advanceRxptr next).err = s.err := rfl
@[simp] theorem State.advanceRxptr_emit (next : Nat) : (s.advanceRxptr next).emit = s.emit := rfl
@[simp] theorem State.advanceRxptr_asm (next : Nat) : (s.advanceRxptr next).asm = s.asm := rfl
@[simp] theorem State.advanceRxptr_ckTx (next : Nat) : (s.advanceRxptr next).ckTx = s.ckTx := rfl
@[simp] theorem State.advanceRxptr_ckRx (next : Nat) : (s.advanceRxptr next).ckRx = s.ckRx := rfl
@[simp] theorem State.advanceRxptr_txbuf (next : Nat) : (s.advanceRxptr next).txbuf = s.txbuf := rfl
@[simp] theorem State.advanceRxptr_txlen (next : Nat) : (s.advanceRxptr next).txlen = s.txlen := rfl
@[simp] theorem State.advanceRxptr_rxbuf (next : Nat) : (s.advanceRxptr next).rxbuf = s.rxbuf := rfl
@[simp] theorem State.advanceRxptr_rxlen (next : Nat) : (s.advanceRxptr next).rxlen = s.rxlen := rfl
@[simp] theorem State.advanceRxptr_rxptr (next : Nat) : (s.advanceRxptr next).rxptr = next := rfl
@[simp] theorem State.advanceRxptr_cur (next : Nat) : (s.advanceRxptr next).cur = s.cur := rfl
@[simp] theorem State.advanceRxptr_msgout (next : Nat) : (s.advanceRxptr next).msgout = s.msgout := rfl
@[simp] theorem State.advanceRxptr_host (next : Nat) : (s.advanceRxptr next).host = s.host := rfl
@[simp] theorem State.advanceRxptr_hostIndex (next : Nat) : (s.advanceRxptr next).hostIndex = s.hostIndex := rfl
@[simp] theorem State.advanceRxptr_reads (next : Nat) : (s.advanceRxptr next).reads = s.reads := rfl
@[simp] theorem State.advanceRxptr_resets (next : Nat) : (s.advanceRxptr next).resets = s.resets := rfl

/-! `State.setRxMark` -/

@[simp] theorem State.setRxMark_cfg (i : Nat) (v : Word) : (s.setRxMark i v).cfg = s.cfg := rfl
@[simp] theorem State.setRxMark_cmd (i : Nat) (v : Word) : (s.setRxMark i v).cmd = s.cmd := rfl
@[simp] theorem State.setRxMark_arg0 (i : Nat) (v : Word) : (s.setRxMark i v).arg0 = s.arg0 := rfl
@[simp] theorem State.setRxMark_arg1 (i : Nat) (v : Word) : (s.setRxMark i v).arg1 = s.arg1 := rfl
@[simp] theorem State.setRxMark_res (i : Nat) (v : Word) : (s.setRxMark i v).res = s.res := rfl
@[simp] theorem State.setRxMark_err (i : Nat) (v : Word) : (s.setRxMark i v).err = s.err := rfl
@[simp] theorem State.setRxMark_emit (i : Nat) (v : Word) : (s.setRxMark i v).emit = s.emit := rfl
@[simp] theorem State.setRxMark_asm (i : Nat) (v : Word) : (s.setRxMark i v).asm = s.asm := rfl
@[simp] theorem State.setRxMark_ckTx (i : Nat) (v : Word) : (s.setRxMark i v).ckTx = s.ckTx := rfl
@[simp] theorem State.setRxMark_ckRx (i : Nat) (v : Word) : (s.setRxMark i v).ckRx = s.ckRx := rfl
@[simp] theorem State.setRxMark_txbuf (i : Nat) (v : Word) : (s.setRxMark i v).txbuf = s.txbuf := rfl
@[simp] theorem State.setRxMark_txlen (i : Nat) (v : Word) : (s.setRxMark i v).txlen = s.txlen := rfl
@[simp] theorem State.setRxMark_rxbuf (i : Nat) (v : Word) : (s.setRxMark i v).rxbuf = s.rxbuf.modify i fun p => { p with mark := v } := rfl
@[simp] theorem State.setRxMark_rxlen (i : Nat) (v : Word) : (s.setRxMark i v).rxlen = s.rxlen := rfl
@[simp] theorem State.setRxMark_rxptr (i : Nat) (v : Word) : (s.setRxMark i v).rxptr = s.rxptr := rfl
@[simp] theorem State.setRxMark_cur (i : Nat) (v : Word) : (s.setRxMark i v).cur = s.cur := rfl
@[simp] theorem State.setRxMark_msgout (i : Nat) (v : Word) : (s.setRxMark i v).msgout = s.msgout := rfl
@[simp] theorem State.setRxMark_host (i : Nat) (v : Word) : (s.setRxMark i v).host = s.host := rfl
@[simp] theorem State.setRxMark_hostIndex (i : Nat) (v : Word) : (s.setRxMark i v).hostIndex = s.hostIndex := rfl
@[simp] theorem State.setRxMark_reads (i : Nat) (v : Word) : (s.setRxMark i v).reads = s.reads := rfl
@[simp] theorem State.setRxMark_resets (i : Nat) (v : Word) : (s.setRxMark i v).resets = s.resets := rfl

/-! `State.setRxSpace` -/

@[simp] theorem State.setRxSpace_cfg (i : Nat) (v : Word) : (s.setRxSpace i v).cfg = s.cfg := rfl
@[simp] theorem State.setRxSpace_cmd (i : Nat) (v : Word) : (s.setRxSpace i v).cmd = s.cmd := rfl
@[simp] theorem State.setRxSpace_arg0 (i : Nat) (v : Word) : (s.setRxSpace i v).arg0 = s.arg0 := rfl
@[simp] theorem State.setRxSpace_arg1 (i : Nat) (v : Word) : (s.setRxSpace i v).arg1 = s.arg1 := rfl
@[simp] theorem State.setRxSpace_res (i : Nat) (v : Word) : (s.setRxSpace i v).res = s.res := rfl
@[simp] theorem State.setRxSpace_err (i : Nat) (v : Word) : (s.setRxSpace i v).err = s.err := rfl
@[simp] theorem State.setRxSpace_emit (i : Nat) (v : Word) : (s.setRxSpace i v).emit = s.emit := rfl
@[simp] theorem State.setRxSpace_asm (i : Nat) (v : Word) : (s.setRxSpace i v).asm = s.asm := rfl
@[simp] theorem State.setRxSpace_ckTx (i : Nat) (v : Word) : (s.setRxSpace i v).ckTx = s.ckTx := rfl
@[simp] theorem State.setRxSpace_ckRx (i : Nat) (v : Word) : (s.setRxSpace i v).ckRx = s.ckRx := rfl
@[simp] theorem State.setRxSpace_txbuf (i : Nat) (v : Word) : (s.setRxSpace i v).txbuf = s.txbuf := rfl
@[simp] theorem State.setRxSpace_txlen (i : Nat) (v : Word) : (s.setRxSpace i v).txlen = s.txlen := rfl
@[simp] theorem State.setRxSpace_rxbuf (i : Nat) (v : Word) : (s.setRxSpace i v).rxbuf = s.rxbuf.modify i fun p => { p with space := v } := rfl
@[simp] theorem State.setRxSpace_rxlen (i : Nat) (v : Word) : (s.setRxSpace i v).rxlen = s.rxlen := rfl
@[simp] theorem State.setRxSpace_rxptr (i : Nat) (v : Word) : (s.setRxSpace i v).rxptr = s.rxptr := rfl
@[simp] theorem State.setRxSpace_cur (i : Nat) (v : Word) : (s.setRxSpace i v).cur = s.cur := rfl
@[simp] theorem State.setRxSpace_msgout (i : Nat) (v : Word) : (s.setRxSpace i v).msgout = s.msgout := rfl
@[simp] theorem State.setRxSpace_host (i : Nat) (v : Word) : (s.setRxSpace i v).host = s.host := rfl
@[simp] theorem State.setRxSpace_hostIndex (i : Nat) (v : Word) : (s.setRxSpace i v).hostIndex = s.hostIndex := rfl
@[simp] theorem State.setRxSpace_reads (i : Nat) (v : Word) : (s.setRxSpace i v).reads = s.reads := rfl
@[simp] theorem State.setRxSpace_resets (i : Nat) (v : Word) : (s.setRxSpace i v).resets = s.resets := rfl

/-! `State.loadTrain` -/

@[simp] theorem State.loadTrain_cfg (train : List Pulse) : (s.loadTrain train).cfg = s.cfg := rfl
@[simp] theorem State.loadTrain_cmd (train : List Pulse) : (s.loadTrain train).cmd = s.cmd := rfl
@[simp] theorem State.loadTrain_arg0 (train : List Pulse) : (s.loadTrain train).arg0 = s.arg0 := rfl
@[simp] theorem State.loadTrain_arg1 (train : List Pulse) : (s.loadTrain train).arg1 = s.arg1 := rfl
@[simp] theorem State.loadTrain_res (train : List Pulse) : (s.loadTrain train).res = s.res := rfl
@[simp] theorem State.loadTrain_err (train : List Pulse) : (s.loadTrain train).err = s.err := rfl
@[simp] theorem State.loadTrain_emit (train : List Pulse) : (s.loadTrain train).emit = s.emit := rfl
@[simp] theorem State.loadTrain_asm (train : List Pulse) : (s.loadTrain train).asm = s.asm := rfl
@[simp] theorem State.loadTrain_ckTx (train : List Pulse) : (s.loadTrain train).ckTx = s.ckTx := rfl
@[simp] theorem State.loadTrain_ckRx (train : List Pulse) : (s.loadTrain train).ckRx = s.ckRx := rfl
@[simp] theorem State.loadTrain_txbuf (train : List Pulse) : (s.loadTrain train).txbuf = train ++ List.replicate (txCap - train.length) zeroPulse := rfl
@[simp] theorem State.loadTrain_txlen (train : List Pulse) : (s.loadTrain train).txlen = train.length := rfl
@[simp] theorem State.loadTrain_rxbuf (train : List Pulse) : (s.loadTrain train).rxbuf = s.rxbuf := rfl
@[simp] theorem State.loadTrain_rxlen (train : List Pulse) : (s.loadTrain train).rxlen = s.rxlen := rfl
@[simp] theorem State.loadTrain_rxptr (train : List Pulse) : (s.loadTrain train).rxptr = s.rxptr := rfl
@[simp] theorem State.loadTrain_cur (train : List Pulse) : (s.loadTrain train).cur = s.cur := rfl
@[simp] theorem State.loadTrain_msgout (train : List Pulse) : (s.loadTrain train).msgout = s.msgout := rfl
@[simp] theorem State.loadTrain_host (train : List Pulse) : (s.loadTrain train).host = s.host := rfl
@[simp] theorem State.loadTrain_hostIndex (train : List Pulse) : (s.loadTrain train).hostIndex = s.hostIndex := rfl
@[simp] theorem State.loadTrain_reads (train : List Pulse) : (s.loadTrain train).reads = s.reads := rfl
@[simp] theorem State.loadTrain_resets (train : List Pulse) : (s.loadTrain train).resets = s.resets := rfl

/-! `State.emitMessage` -/

@[simp] theorem State.emitMessage_cfg (m : List Field) : (s.emitMessage m).cfg = s.cfg := rfl
@[simp] theorem State.emitMessage_cmd (m : List Field) : (s.emitMessage m).cmd = s.cmd := rfl
@[simp] theorem State.emitMessage_arg0 (m : List Field) : (s.emitMessage m).arg0 = s.arg0 := rfl
@[simp] theorem State.emitMessage_arg1 (m : List Field) : (s.emitMessage m).arg1 = s.arg1 := rfl
@[simp] theorem State.emitMessage_res (m : List Field) : (s.emitMessage m).res = s.res := rfl
@[simp] theorem State.emitMessage_err (m : List Field) : (s.emitMessage m).err = s.err := rfl
@[simp] theorem State.emitMessage_emit (m : List Field) : (s.emitMessage m).emit = true := rfl
@[simp] theorem State.emitMessage_asm (m : List Field) : (s.emitMessage m).asm = s.asm := rfl
@[simp] theorem State.emitMessage_ckTx (m : List Field) : (s.emitMessage m).ckTx = s.ckTx := rfl
@[simp] theorem State.emitMessage_ckRx (m : List Field) : (s.emitMessage m).ckRx = s.ckRx := rfl
@[simp] theorem State.emitMessage_txbuf (m : List Field) : (s.emitMessage m).txbuf = s.txbuf := rfl
@[simp] theorem State.emitMessage_txlen (m : List Field) : (s.emitMessage m).txlen = s.txlen := rfl
@[simp] theorem State.emitMessage_rxbuf (m : List Field) : (s.emitMessage m).rxbuf = s.rxbuf := rfl
@[simp] theorem State.emitMessage_rxlen (m : List Field) : (s.emitMessage m).rxlen = s.rxlen := rfl
@[simp] theorem State.emitMessage_rxptr (m : List Field) : (s.emitMessage m).rxptr = s.rxptr := rfl
@[simp] theorem State.emitMessage_cur (m : List Field) : (s.emitMessage m).cur = s.cur := rfl
@[simp] theorem State.emitMessage_msgout (m : List Field) : (s.emitMessage m).msgout = m := rfl
@[simp] theorem State.emitMessage_host (m : List Field) : (s.emitMessage m).host = s.host := rfl
@[simp] theorem State.emitMessage_hostIndex (m : List Field) : (s.emitMessage m).hostIndex = s.hostIndex := rfl
@[simp] theorem State.emitMessage_reads (m : List Field) : (s.emitMessage m).reads = s.reads := rfl
@[simp] theorem State.emitMessage_resets (m : List Field) : (s.emitMessage m).resets = s.resets := rfl

/-! `State.discard` -/

@[simp] theorem State.discard_cfg : (s.discard).cfg = s.cfg := rfl
@[simp] theorem State.discard_cmd : (s.discard).cmd = s.cmd := rfl
@[simp] theorem State.discard_arg0 : (s.discard).arg0 = s.arg0 := rfl
@[simp] theorem State.discard_arg1 : (s.discard).arg1 = s.arg1 := rfl
@[simp] theorem State.discard_res : (s.discard).res = s.res := rfl
@[simp] theorem State.discard_err : (s.discard).err = s.err := rfl
@[simp] theorem State.discard_emit : (s.discard).emit = s.emit := rfl
@[simp] theorem State.discard_asm : (s.discard).asm = .idle := rfl
@[simp] theorem State.discard_ckTx : (s.discard).ckTx = s.ckTx := rfl
@[simp] theorem State.discard_ckRx : (s.discard).ckRx = 0 := rfl
@[simp] theorem State.discard_txbuf : (s.discard).txbuf = s.txbuf := rfl
@[simp] theorem State.discard_txlen : (s.discard).txlen = s.txlen := rfl
@[simp] theorem State.discard_rxbuf : (s.discard).rxbuf = s.rxbuf := rfl
@[simp] theorem State.discard_rxlen : (s.discard).rxlen = s.rxlen := rfl
@[simp] theorem State.discard_rxptr : (s.discard).rxptr = s.rxptr := rfl
@[simp] theorem State.discard_cur : (s.discard).cur = [] := rfl
@[simp] theorem State.discard_msgout : (s.discard).msgout = s.msgout := rfl
@[simp] theorem State.discard_host : (s.discard).host = s.host := rfl
@[simp] theorem State.discard_hostIndex : (s.discard).hostIndex = s.hostIndex := rfl
@[simp] theorem State.discard_reads : (s.discard).reads = s.reads := rfl
@[simp] theorem State.discard_resets : (s.discard).resets = s.resets := rfl

/-! `State.finish` -/

@[simp] theorem State.finish_cfg : (s.finish).cfg = s.cfg := rfl
@[simp] theorem State.finish_cmd : (s.finish).cmd = s.cmd := rfl
@[simp] theorem State.finish_arg0 : (s.finish).arg0 = s.arg0 := rfl
@[simp] theorem State.finish_arg1 : (s.finish).arg1 = s.arg1 := rfl
@[simp] theorem State.finish_res : (s.finish).res = s.res := rfl
@[simp] theorem State.finish_err : (s.finish).err = s.err := rfl
@[simp] theorem State.finish_emit : (s.finish).emit = s.emit := rfl
@[simp] theorem State.finish_asm : (s.finish).asm = .idle := rfl
@[simp] theorem State.finish_ckTx : (s.finish).ckTx = s.ckTx := rfl
@[simp] theorem State.finish_ckRx : (s.finish).ckRx = s.ckRx := rfl
@[simp] theorem State.finish_txbuf : (s.finish).txbuf = s.txbuf := rfl
@[simp] theorem State.finish_txlen : (s.finish).txlen = s.txlen := rfl
@[simp] theorem State.finish_rxbuf : (s.finish).rxbuf = s.rxbuf := rfl
@[simp] theorem State.finish_rxlen : (s.finish).rxlen = s.rxlen := rfl
@[simp] theorem State.finish_rxptr : (s.finish).rxptr = s.rxptr := rfl
@[simp] theorem State.finish_cur : (s.finish).cur = [] := rfl
@[simp] theorem State.finish_msgout : (s.finish).msgout = s.msgout := rfl
@[simp] theorem State.finish_host : (s.finish).host = s.host := rfl
@[simp] theorem State.finish_hostIndex : (s.finish).hostIndex = s.hostIndex := rfl
@[simp] theorem State.finish_reads : (s.finish).reads = s.reads := rfl
@[simp] theorem State.finish_resets : (s.finish).resets = s.resets := rfl

/-! `State.setCur` -/

@[simp] theorem State.setCur_cfg (m : List Field) : (s.setCur m).cfg = s.cfg := rfl
@[simp] theorem State.setCur_cmd (m : List Field) : (s.setCur m).cmd = s.cmd := rfl
@[simp] theorem State.setCur_arg0 (m : List Field) : (s.setCur m).arg0 = s.arg0 := rfl
@[simp] theorem State.setCur_arg1 (m : List Field) : (s.setCur m).arg1 = s.arg1 := rfl
@[simp] theorem State.setCur_res (m : List Field) : (s.setCur m).res = s.res := rfl
@[simp] theorem State.setCur_err (m : List Field) : (s.setCur m).err = s.err := rfl
@[simp] theorem State.setCur_emit (m : List Field) : (s.setCur m).emit = s.emit := rfl
@[simp] theorem State.setCur_asm (m : List Field) : (s.setCur m).asm = .inMessage := rfl
@[simp] theorem State.setCur_ckTx (m : List Field) : (s.setCur m).ckTx = s.ckTx := rfl
@[simp] theorem State.setCur_ckRx (m : List Field) : (s.setCur m).ckRx = s.ckRx := rfl
@[simp] theorem State.setCur_txbuf (m : List Field) : (s.setCur m).txbuf = s.txbuf := rfl
@[simp] theorem State.setCur_txlen (m : List Field) : (s.setCur m).txlen = s.txlen := rfl
@[simp] theorem State.setCur_rxbuf (m : List Field) : (s.setCur m).rxbuf = s.rxbuf := rfl
@[simp] theorem State.setCur_rxlen (m : List Field) : (s.setCur m).rxlen = s.rxlen := rfl
@[simp] theorem State.setCur_rxptr (m : List Field) : (s.setCur m).rxptr = s.rxptr := rfl
@[simp] theorem State.setCur_cur (m : List Field) : (s.setCur m).cur = m := rfl
@[simp] theorem State.setCur_msgout (m : List Field) : (s.setCur m).msgout = s.msgout := rfl
@[simp] theorem State.setCur_host (m : List Field) : (s.setCur m).host = s.host := rfl
@[simp] theorem State.setCur_hostIndex (m : List Field) : (s.setCur m).hostIndex = s.hostIndex := rfl
@[simp] theorem State.setCur_reads (m : List Field) : (s.setCur m).reads = s.reads := rfl
@[simp] theorem State.setCur_resets (m : List Field) : (s.setCur m).resets = s.resets := rfl

/-! `State.takeAccess` -/

@[simp] theorem State.takeAccess_cfg (rest : List HostAction) : (s.takeAccess rest).cfg = s.cfg := rfl
@[simp] theorem State.takeAccess_cmd (rest : List HostAction) : (s.takeAccess rest).cmd = s.cmd := rfl
@[simp] theorem State.takeAccess_arg0 (rest : List HostAction) : (s.takeAccess rest).arg0 = s.arg0 := rfl
@[simp] theorem State.takeAccess_arg1 (rest : List HostAction) : (s.takeAccess rest).arg1 = s.arg1 := rfl
@[simp] theorem State.takeAccess_res (rest : List HostAction) : (s.takeAccess rest).res = s.res := rfl
@[simp] theorem State.takeAccess_err (rest : List HostAction) : (s.takeAccess rest).err = s.err := rfl
@[simp] theorem State.takeAccess_emit (rest : List HostAction) : (s.takeAccess rest).emit = s.emit := rfl
@[simp] theorem State.takeAccess_asm (rest : List HostAction) : (s.takeAccess rest).asm = s.asm := rfl
@[simp] theorem State.takeAccess_ckTx (rest : List HostAction) : (s.takeAccess rest).ckTx = s.ckTx := rfl
@[simp] theorem State.takeAccess_ckRx (rest : List HostAction) : (s.takeAccess rest).ckRx = s.ckRx := rfl
@[simp] theorem State.takeAccess_txbuf (rest : List HostAction) : (s.takeAccess rest).txbuf = s.txbuf := rfl
@[simp] theorem State.takeAccess_txlen (rest : List HostAction) : (s.takeAccess rest).txlen = s.txlen := rfl
@[simp] theorem State.takeAccess_rxbuf (rest : List HostAction) : (s.takeAccess rest).rxbuf = s.rxbuf := rfl
@[simp] theorem State.takeAccess_rxlen (rest : List HostAction) : (s.takeAccess rest).rxlen = s.rxlen := rfl
@[simp] theorem State.takeAccess_rxptr (rest : List HostAction) : (s.takeAccess rest).rxptr = s.rxptr := rfl
@[simp] theorem State.takeAccess_cur (rest : List HostAction) : (s.takeAccess rest).cur = s.cur := rfl
@[simp] theorem State.takeAccess_msgout (rest : List HostAction) : (s.takeAccess rest).msgout = s.msgout := rfl
@[simp] theorem State.takeAccess_host (rest : List HostAction) : (s.takeAccess rest).host = rest := rfl
@[simp] theorem State.takeAccess_hostIndex (rest : List HostAction) : (s.takeAccess rest).hostIndex = s.hostIndex + 1 := rfl
@[simp] theorem State.takeAccess_reads (rest : List HostAction) : (s.takeAccess rest).reads = s.reads := rfl
@[simp] theorem State.takeAccess_resets (rest : List HostAction) : (s.takeAccess rest).resets = s.resets := rfl

/-! `State.takeReset` -/

@[simp] theorem State.takeReset_cfg (rest : List HostAction) : (s.takeReset rest).cfg = s.cfg := rfl
@[simp] theorem State.takeReset_cmd (rest : List HostAction) : (s.takeReset rest).cmd = s.cmd := rfl
@[simp] theorem State.takeReset_arg0 (rest : List HostAction) : (s.takeReset rest).arg0 = s.arg0 := rfl
@[simp] theorem State.takeReset_arg1 (rest : List HostAction) : (s.takeReset rest).arg1 = s.arg1 := rfl
@[simp] theorem State.takeReset_res (rest : List HostAction) : (s.takeReset rest).res = s.res := rfl
@[simp] theorem State.takeReset_err (rest : List HostAction) : (s.takeReset rest).err = s.err := rfl
@[simp] theorem State.takeReset_emit (rest : List HostAction) : (s.takeReset rest).emit = s.emit := rfl
@[simp] theorem State.takeReset_asm (rest : List HostAction) : (s.takeReset rest).asm = s.asm := rfl
@[simp] theorem State.takeReset_ckTx (rest : List HostAction) : (s.takeReset rest).ckTx = s.ckTx := rfl
@[simp] theorem State.takeReset_ckRx (rest : List HostAction) : (s.takeReset rest).ckRx = s.ckRx := rfl
@[simp] theorem State.takeReset_txbuf (rest : List HostAction) : (s.takeReset rest).txbuf = s.txbuf := rfl
@[simp] theorem State.takeReset_txlen (rest : List HostAction) : (s.takeReset rest).txlen = s.txlen := rfl
@[simp] theorem State.takeReset_rxbuf (rest : List HostAction) : (s.takeReset rest).rxbuf = s.rxbuf := rfl
@[simp] theorem State.takeReset_rxlen (rest : List HostAction) : (s.takeReset rest).rxlen = s.rxlen := rfl
@[simp] theorem State.takeReset_rxptr (rest : List HostAction) : (s.takeReset rest).rxptr = s.rxptr := rfl
@[simp] theorem State.takeReset_cur (rest : List HostAction) : (s.takeReset rest).cur = s.cur := rfl
@[simp] theorem State.takeReset_msgout (rest : List HostAction) : (s.takeReset rest).msgout = s.msgout := rfl
@[simp] theorem State.takeReset_host (rest : List HostAction) : (s.takeReset rest).host = rest := rfl
@[simp] theorem State.takeReset_hostIndex (rest : List HostAction) : (s.takeReset rest).hostIndex = s.hostIndex := rfl
@[simp] theorem State.takeReset_reads (rest : List HostAction) : (s.takeReset rest).reads = s.reads := rfl
@[simp] theorem State.takeReset_resets (rest : List HostAction) : (s.takeReset rest).resets = s.resets := rfl

/-! `State.setCk` -/

@[simp] theorem State.setCk_cfg (sel : CkSel) (v : Word) : (s.setCk sel v).cfg = s.cfg := by cases sel <;> rfl
@[simp] theorem State.setCk_cmd (sel : CkSel) (v : Word) : (s.setCk sel v).cmd = s.cmd := by cases sel <;> rfl
@[simp] theorem State.setCk_arg0 (sel : CkSel) (v : Word) : (s.setCk sel v).arg0 = s.arg0 := by cases sel <;> rfl
@[simp] theorem State.setCk_arg1 (sel : CkSel) (v : Word) : (s.setCk sel v).arg1 = s.arg1 := by cases sel <;> rfl
@[simp] theorem State.setCk_res (sel : CkSel) (v : Word) : (s.setCk sel v).res = s.res := by cases sel <;> rfl
@[simp] theorem State.setCk_err (sel : CkSel) (v : Word) : (s.setCk sel v).err = s.err := by cases sel <;> rfl
@[simp] theorem State.setCk_emit (sel : CkSel) (v : Word) : (s.setCk sel v).emit = s.emit := by cases sel <;> rfl
@[simp] theorem State.setCk_asm (sel : CkSel) (v : Word) : (s.setCk sel v).asm = s.asm := by cases sel <;> rfl
@[simp] theorem State.setCk_tx_ckTx (v : Word) : (s.setCk .tx v).ckTx = v := rfl
@[simp] theorem State.setCk_rx_ckTx (v : Word) : (s.setCk .rx v).ckTx = s.ckTx := rfl
@[simp] theorem State.setCk_rx_ckRx (v : Word) : (s.setCk .rx v).ckRx = v := rfl
@[simp] theorem State.setCk_tx_ckRx (v : Word) : (s.setCk .tx v).ckRx = s.ckRx := rfl
@[simp] theorem State.setCk_txbuf (sel : CkSel) (v : Word) : (s.setCk sel v).txbuf = s.txbuf := by cases sel <;> rfl
@[simp] theorem State.setCk_txlen (sel : CkSel) (v : Word) : (s.setCk sel v).txlen = s.txlen := by cases sel <;> rfl
@[simp] theorem State.setCk_rxbuf (sel : CkSel) (v : Word) : (s.setCk sel v).rxbuf = s.rxbuf := by cases sel <;> rfl
@[simp] theorem State.setCk_rxlen (sel : CkSel) (v : Word) : (s.setCk sel v).rxlen = s.rxlen := by cases sel <;> rfl
@[simp] theorem State.setCk_rxptr (sel : CkSel) (v : Word) : (s.setCk sel v).rxptr = s.rxptr := by cases sel <;> rfl
@[simp] theorem State.setCk_cur (sel : CkSel) (v : Word) : (s.setCk sel v).cur = s.cur := by cases sel <;> rfl
@[simp] theorem State.setCk_msgout (sel : CkSel) (v : Word) : (s.setCk sel v).msgout = s.msgout := by cases sel <;> rfl
@[simp] theorem State.setCk_host (sel : CkSel) (v : Word) : (s.setCk sel v).host = s.host := by cases sel <;> rfl
@[simp] theorem State.setCk_hostIndex (sel : CkSel) (v : Word) : (s.setCk sel v).hostIndex = s.hostIndex := by cases sel <;> rfl
@[simp] theorem State.setCk_reads (sel : CkSel) (v : Word) : (s.setCk sel v).reads = s.reads := by cases sel <;> rfl
@[simp] theorem State.setCk_resets (sel : CkSel) (v : Word) : (s.setCk sel v).resets = s.resets := by cases sel <;> rfl

@[simp] theorem State.setCk_ck (sel : CkSel) (v : Word) : (s.setCk sel v).ck sel = v := by cases sel <;> rfl

@[simp] theorem State.ck_tx : s.ck .tx = s.ckTx := rfl

@[simp] theorem State.ck_rx : s.ck .rx = s.ckRx := rfl

/-! `resetInput`: the host's side and the instance stay, everything else is as after a reset. -/

@[simp] theorem resetInput_cfg : (resetInput s).cfg = s.cfg := rfl
@[simp] theorem resetInput_cmd : (resetInput s).cmd = 0 := rfl
@[simp] theorem resetInput_arg0 : (resetInput s).arg0 = 0 := rfl
@[simp] theorem resetInput_arg1 : (resetInput s).arg1 = 0 := rfl
@[simp] theorem resetInput_res : (resetInput s).res = 0 := rfl
@[simp] theorem resetInput_err : (resetInput s).err = .ok := rfl
@[simp] theorem resetInput_emit : (resetInput s).emit = false := rfl
@[simp] theorem resetInput_asm : (resetInput s).asm = .idle := rfl
@[simp] theorem resetInput_ckTx : (resetInput s).ckTx = 0 := rfl
@[simp] theorem resetInput_ckRx : (resetInput s).ckRx = 0 := rfl
@[simp] theorem resetInput_txbuf : (resetInput s).txbuf = List.replicate txCap ⟨0, 0⟩ := rfl
@[simp] theorem resetInput_txlen : (resetInput s).txlen = 0 := rfl
@[simp] theorem resetInput_rxbuf : (resetInput s).rxbuf = rxbufDrawn s.cfg (s.resets + 1) := rfl
@[simp] theorem resetInput_rxlen : (resetInput s).rxlen = 0 := rfl
@[simp] theorem resetInput_rxptr : (resetInput s).rxptr = 0 := rfl
@[simp] theorem resetInput_cur : (resetInput s).cur = [] := rfl
@[simp] theorem resetInput_msgout : (resetInput s).msgout = [] := rfl
@[simp] theorem resetInput_host : (resetInput s).host = s.host := rfl
@[simp] theorem resetInput_hostIndex : (resetInput s).hostIndex = s.hostIndex := rfl
@[simp] theorem resetInput_reads : (resetInput s).reads = s.reads := rfl
@[simp] theorem resetInput_resets : (resetInput s).resets = s.resets + 1 := rfl

end Sys2Proof.Machine
end

