-- ==== Sys2Proof/Laws/Ops.lean ====
section
/-! SUPPORT. What the shared operands and operations say: KIND codes, legal values, field words, the classifier, the
accumulator operations and the KIND check. -/

namespace Sys2Proof.Machine

/-! KIND codes (R120). -/

@[simp] theorem kindOfCode_kindCode (k : Kind) : kindOfCode (kindCode k) = some k := by cases k <;> rfl

theorem kindOfCode_eq_some {code : BitVec 3} {k : Kind} (h : kindOfCode code = some k) : code = kindCode k := by
  revert code; cases k <;> decide

theorem kindOfCode_eq_none {code : BitVec 3} : kindOfCode code = none ↔ 5 < code.toNat := by revert code; decide

theorem kindCode_toNat_le (k : Kind) : (kindCode k).toNat ≤ 5 := by cases k <;> decide

theorem kindCode_injective {k k' : Kind} (h : kindCode k = kindCode k') : k = k' := by
  cases k <;> cases k' <;> first | rfl | (exact absurd h (by decide))

/-- A command with KIND 0 to 5 goes on to its own rule. -/
@[simp] theorem withKind_kindCode (k : Kind) (s : State) (meaning : Kind → Result) :
    withKind (kindCode k) s meaning = meaning k := by simp [withKind]

/-- A command with KIND 6 or 7 raises ERR_KIND. -/
theorem withKind_reserved {code : BitVec 3} (h : 5 < code.toNat) (s : State) (meaning : Kind → Result) :
    withKind code s meaning = .next (s.raise .kind) := by simp [withKind, kindOfCode_eq_none.mpr h]

/-- All the KIND check can do: raise ERR_KIND on a reserved code, or run the meaning on the kind of the code. -/
theorem withKind_cases {code : BitVec 3} {s t : State} {meaning : Kind → Result}
    (h : withKind code s meaning = .next t) :
    (5 < code.toNat ∧ t = s.raise .kind) ∨ ∃ k, code = kindCode k ∧ meaning k = .next t := by
  unfold withKind at h
  split at h
  · next hk => exact .inl ⟨kindOfCode_eq_none.mp hk, by simpa using h.symm⟩
  · next k hk => exact .inr ⟨k, kindOfCode_eq_some hk, h⟩

/-! Legal values and field words (R14, R121). -/

theorem legal_iff {k : Kind} {v : Nat} : legal k v = true ↔ kindLow k ≤ v ∧ v ≤ kindHigh k := by simp [legal]

theorem legal_lt_512 {k : Kind} {v : Nat} (h : legal k v = true) : v < 512 := by
  rw [legal_iff] at h; cases k <;> simp [kindHigh] at h <;> omega

theorem legal_lt_width {k : Kind} {v : Nat} (h : legal k v = true) : v < 2 ^ kindWidth k := by
  rw [legal_iff] at h; cases k <;> simp [kindHigh, kindWidth] at h ⊢ <;> omega

theorem fieldWord_eq {k : Kind} {v : Nat} (h : v < 512) :
    fieldWord k v = BitVec.ofNat 32 ((kindCode k).toNat * 65536 + v) := by
  have := Nat.shiftLeft_add_eq_or_of_lt (b := v) (i := 16) (by omega) (kindCode k).toNat
  rw [fieldWord, ← this, Nat.shiftLeft_eq]

theorem mkField_value_toNat {k : Kind} {v : Nat} (h : legal k v = true) : (mkField k v).value.toNat = v := by
  have := legal_lt_512 h
  simp [mkField]; omega

/-! The classifier (R160). -/

theorem classify_iff {obs can : Word} :
    classify obs can = true ↔ 4 * can.toNat ≤ 5 * obs.toNat ∧ 5 * obs.toNat ≤ 6 * can.toNat := by simp [classify]

theorem classify_self (d : Word) : classify d d = true := by rw [classify_iff]; omega

theorem classify_zero_right {d : Word} (h : classify d 0 = true) : d = 0 := by
  rw [classify_iff] at h; apply BitVec.eq_of_toNat_eq; simp at h ⊢; omega

/-- Only 0 classifies against 0, and 0 against nothing else. -/
theorem classify_ne_zero {obs can : Word} (h : classify obs can = true) (hc : can ≠ 0) : obs ≠ 0 := by
  rintro rfl
  rw [classify_iff] at h
  apply hc; apply BitVec.eq_of_toNat_eq; simp at h ⊢; omega

/-- The accepted durations lie in the window of the canonical value. -/
theorem classify_window {d a : Word} (h : classify d a = true) : windowLow a ≤ d.toNat ∧ d.toNat ≤ windowHigh a := by
  rw [classify_iff] at h; unfold windowLow windowHigh; omega

/-- Canonical values that do not overlap have no duration in common (R231). -/
theorem not_overlaps_classify {a b d : Word} (h : overlaps a b = false) (ha : classify d a = true) :
    classify d b = false := by
  by_contra hb
  have wa := classify_window ha
  have wb := classify_window (Bool.not_eq_false _ ▸ hb)
  have hw := of_decide_eq_false h
  omega

/-! The accumulator operations (R200). -/

theorem ckReduced_toNat (a : Word) : (ckReduced a).toNat = a.toNat % 256 := by simp [ckReduced]

theorem ckResult_toNat (a : Word) : (ckResult a).toNat = a.toNat % 256 + 256 := by
  have h := Nat.shiftLeft_add_eq_or_of_lt (b := a.toNat % 256) (i := 8) (by omega) 1
  simp [ckResult, ckReduced, Nat.or_comm] at h ⊢
  omega

/-- "guaranteeing the encoded checksum field's value is always in `[256, 511]`" (R203). -/
theorem ckResult_legal (a : Word) : legal .checksum (ckResult a).toNat = true := by
  rw [legal_iff, ckResult_toNat]; simp [kindLow, kindHigh]; omega

/-- Bits [31:9] of an operand must be 0 and bits [7:0] the total mod 256. -/
theorem ckValid_iff {a c : Word} : ckValid a c = true ↔ c.toNat / 512 = 0 ∧ c.toNat % 256 = a.toNat % 256 := by
  have key : c &&& 0xFFFFFEFF = BitVec.ofNat 32 (c.toNat / 512 * 512 + c.toNat % 256) := by
    apply BitVec.eq_of_getLsbD_eq
    intro i hi
    have h9 : c.toNat / 512 * 512 + c.toNat % 256 = (c.toNat / 512) <<< 9 ||| (c.toNat % 256) := by
      rw [← Nat.shiftLeft_add_eq_or_of_lt (by omega), Nat.shiftLeft_eq]
    have h5 : c.toNat / 512 = c.toNat >>> 9 := by simp [Nat.shiftRight_eq_div_pow]
    have h8 : c.toNat % 256 = c.toNat % 2 ^ 8 := rfl
    rw [BitVec.getLsbD_and, BitVec.getLsbD_ofNat, h9, Nat.testBit_or, Nat.testBit_shiftLeft, h5, h8,
      Nat.testBit_shiftRight, Nat.testBit_mod_two_pow]
    have hc : c.getLsbD i = c.toNat.testBit i := rfl
    rw [hc]
    have hm : ∀ i < 32, (0xFFFFFEFF : Word).getLsbD i = !decide (i = 8) := by decide
    rw [hm i hi]
    rcases Nat.lt_trichotomy i 8 with h | h | h
    · have : i ≠ 8 := by omega
      have h9' : ¬ 9 ≤ i := by omega
      simp [this, hi, h, h9']
    · subst h; simp
    · have h1 : i ≠ 8 := by omega
      have h2 : 9 ≤ i := by omega
      have h3 : ¬ i < 8 := by omega
      simp [h1, h2, h3, hi]
  have hlt := c.isLt
  rw [ckValid, key, beq_iff_eq]
  constructor
  · intro h
    have := congrArg BitVec.toNat h
    simp at this
    omega
  · intro h
    apply BitVec.eq_of_toNat_eq
    simp
    omega

/-! A conversion's end: all it can do is write RES or raise ERR_DOMAIN. -/

theorem finishConversion_cases {s t : State} {r : Option Nat} (h : finishConversion s r = .next t) :
    (∃ n, r = some n ∧ t = s.startCommand.setRes (BitVec.ofNat 32 n)) ∨ (r = none ∧ t = s.raise .domain) := by
  cases r with
  | none => exact .inr ⟨rfl, by simpa [finishConversion] using h.symm⟩
  | some n => exact .inl ⟨n, rfl, by simpa [finishConversion] using h.symm⟩

end Sys2Proof.Machine
end

