-- ==== Sys2Proof/Laws/Memory.lean ====
section
/-! SUPPORT. The buffers keep their sizes (`Memory.wf`) under every operation that writes them, and have them after reset;
and a store to one RXBUF word is read back there and nowhere else. -/

namespace Sys2Proof.Machine

theorem Memory.wf_iff {s : State} :
    Memory.wf s = true ↔ s.txbuf.length = txCap ∧ s.rxbuf.length = s.cfg.rxCap := by simp [Memory.wf]

/-- An operation that keeps the instance and both buffers' lengths keeps the form. -/
theorem Memory.wf_of_lengths {s t : State} (h : Memory.wf s = true) (hc : t.cfg = s.cfg)
    (htx : t.txbuf.length = s.txbuf.length) (hrx : t.rxbuf.length = s.rxbuf.length) : Memory.wf t = true := by
  rw [Memory.wf_iff] at h ⊢; rw [hc, htx, hrx]; exact h

theorem Memory.resetOf_wf (c : Config) (k : Nat) : Memory.wf (State.resetOf c k) = true := by
  simp [Memory.wf_iff, State.resetOf, rxbufDrawn]

theorem Memory.resetInput_wf (s : State) : Memory.wf (resetInput s) = true := by
  simp [Memory.wf_iff, rxbufDrawn]

theorem Memory.setRxMark_wf {s : State} (h : Memory.wf s = true) (i : Nat) (v : Word) :
    Memory.wf (s.setRxMark i v) = true := Memory.wf_of_lengths h rfl rfl (by simp)

theorem Memory.setRxSpace_wf {s : State} (h : Memory.wf s = true) (i : Nat) (v : Word) :
    Memory.wf (s.setRxSpace i v) = true := Memory.wf_of_lengths h rfl rfl (by simp)

/-- Loading a train of at most 13 pulses fills TXBUF exactly. -/
theorem Memory.loadTrain_wf {s : State} (h : Memory.wf s = true) {train : List Pulse} (ht : train.length ≤ txCap) :
    Memory.wf (s.loadTrain train) = true := by
  rw [Memory.wf_iff] at h ⊢
  refine ⟨?_, h.2⟩
  simp; omega

/-! Reading a pulse after a write. -/

theorem pulseAt_modify (ps : List Pulse) (f : Pulse → Pulse) (i j : Nat) :
    pulseAt (ps.modify i f) j = if i = j ∧ j < ps.length then f (pulseAt ps j) else pulseAt ps j := by
  simp only [pulseAt, List.getD_eq_getElem?_getD, List.getElem?_modify]
  by_cases hij : i = j
  · subst hij
    by_cases hl : i < ps.length
    · simp [hl]
    · simp [hl]
  · simp [hij]

theorem pulseAt_loadTrain_tail (s : State) (train : List Pulse) {i : Nat} (h : train.length ≤ i) :
    pulseAt (s.loadTrain train).txbuf i = zeroPulse := by
  simp only [pulseAt, State.loadTrain_txbuf, List.getD_eq_getElem?_getD]
  rw [List.getElem?_append_right h, List.getElem?_replicate]
  split <;> rfl

end Sys2Proof.Machine
end

