-- ==== Sys2Proof/Laws/Codec.lean ====
section
/-! SUPPORT. What encoding and decoding a field can give: train lengths (spec/30_encoding.md R123), and the bounds on what
the decoder returns (44_pulse_codec.md R252). -/

namespace Sys2Proof.Machine

@[simp] theorem bitPulses_length (c : Config) (w v : Nat) : (bitPulses c w v).length = w := by simp [bitPulses]

theorem encodeField_length (c : Config) (k : Kind) (v : Nat) :
    (encodeField c k v).length = kindWidth k + 3 + (if kindTerminating k then 1 else 0) := by
  cases k <;> simp [encodeField, kindTerminating, kindWidth]

theorem encodeField_length_le (c : Config) (k : Kind) (v : Nat) : (encodeField c k v).length ≤ txCap := by
  rw [encodeField_length]; cases k <;> decide

/-- Peeling one pulse off the bit loop: the four ways it can go (R252). -/
theorem decodeBits_cons (c : Config) (rxlen : Nat) (q : Pulse) (qs : List Pulse) (i v n : Nat) (sf : Bool) :
    decodeBits c rxlen (q :: qs) i v n sf =
      if isSentinel q then .ok ⟨i + 1, v, n, sf⟩
      else if isGap c q then .ok ⟨if startsWithSentinel qs then i + 2 else i + 1, v, n, sf⟩
      else if n = 9 then .error .length
      else
        match bitOf c q with
        | none => .error .bit
        | some b => decodeBits c rxlen qs (i + 1) ((v <<< 1) ||| b) (n + 1) (sf || !classify q.space c.tBs) := rfl

theorem bitOf_le_one {c : Config} {q : Pulse} {b : Nat} (h : bitOf c q = some b) : b ≤ 1 := by
  simp only [bitOf] at h
  split at h
  · simp at h; omega
  · split at h
    · simp at h; omega
    · simp at h

/-- What the bit loop returns: at most nine bits, a value of that many bits, and an index no further than RXLEN. -/
theorem decodeBits_bounds {c : Config} {rxlen : Nat} {qs : List Pulse} {i v n : Nat} {sf : Bool} {r : BitRun}
    (hn : n ≤ 9) (hv : v < 2 ^ n) (hi : i + qs.length ≤ rxlen) (h : decodeBits c rxlen qs i v n sf = .ok r) :
    r.count ≤ 9 ∧ r.value < 2 ^ r.count ∧ r.next ≤ rxlen := by
  induction qs generalizing i v n sf with
  | nil =>
    simp only [decodeBits, Except.ok.injEq] at h
    subst h
    exact ⟨hn, hv, Nat.le_refl _⟩
  | cons q qs ih =>
    rw [decodeBits_cons] at h
    simp only [List.length_cons] at hi
    split at h
    · cases h; exact ⟨hn, hv, by simp only; omega⟩
    · split at h
      · cases h
        refine ⟨hn, hv, ?_⟩
        simp only
        cases qs with
        | nil => simp [startsWithSentinel] at hi ⊢; omega
        | cons q' qs' => simp only [List.length_cons] at hi; split <;> omega
      · split at h
        · cases h
        · next h9 =>
          cases hb : bitOf c q with
          | none => rw [hb] at h; cases h
          | some b =>
            rw [hb] at h
            have hb1 := bitOf_le_one hb
            refine ih (by omega) ?_ (by omega) h
            have : v <<< 1 ||| b = 2 * v + b := by
              rw [← Nat.shiftLeft_add_eq_or_of_lt (by omega), Nat.shiftLeft_eq]; omega
            rw [this, Nat.pow_succ]; omega

/-- The pulses a decode reads: RX[start .. RXLEN-1]. -/
theorem validPulses_length {rx : List Pulse} {rxlen start : Nat} (h : rxlen ≤ rx.length) (hs : start ≤ rxlen) :
    start + ((rx.take rxlen).drop start).length = rxlen := by simp; omega

/-- All a successful decode says of itself (R252). -/
theorem decodeField_ok {c : Config} {rx : List Pulse} {rxlen start : Nat} {d : Decoded}
    (h : decodeField c rx rxlen start = .ok d) :
    ∃ p h' qs f r, start + 2 ≤ rxlen ∧ (rx.take rxlen).drop start = p :: h' :: qs ∧ isPresync c p = true ∧
      headerFamily c h' = some f ∧ decodeBits c rxlen qs (start + 2) 0 0 false = .ok r ∧ r.spaceFail = false ∧
      lookup f r.count r.value = some d.kind ∧ d.value = r.value ∧ d.next = r.next := by
  unfold decodeField at h
  split at h
  · cases h
  · next hlen =>
    split at h
    · next p h' qs hps =>
      split at h
      · next hp =>
        split at h
        · cases h
        · next f hf =>
          split at h
          · cases h
          · next r hr =>
            unfold acceptField at h
            split at h
            · cases h
            · next hsf =>
              split at h
              · cases h
              · next k hk =>
                cases h
                exact ⟨p, h', qs, f, r, by omega, hps, hp, hf, hr, by simpa using hsf, hk, rfl, rfl⟩
      · cases h
    · cases h

/-- DEC_FIELD's two ends: it raises the code of a failed decode, or writes RES and RXPTR. -/
theorem execDecField_cases {s t : State} (h : execDecField s = .next t) :
    (∃ code, decodeField s.cfg s.rxbuf s.rxlen s.rxptr = .error code ∧ t = s.raise code) ∨
      ∃ d, decodeField s.cfg s.rxbuf s.rxlen s.rxptr = .ok d ∧
        t = (s.startCommand.setRes (fieldWord d.kind d.value)).advanceRxptr d.next := by
  unfold execDecField at h
  split at h
  · next code hc => exact .inl ⟨code, hc, by simpa using h.symm⟩
  · next d hd => exact .inr ⟨d, hd, by simpa using h.symm⟩

end Sys2Proof.Machine
end

