-- ==== Sys2Proof/Laws/Bus.lean ====
section
/-! SUPPORT. Everything a step can do: the inversion lemmas of the bus (spec/20_memory.md) and of the assembler's
commands. -/

namespace Sys2Proof.Machine

/-- A passed access check: a 32-bit aligned access to a mapped register. -/
theorem checkAccess_ok {c : Config} {addr width : Nat} {r : Reg} :
    checkAccess c addr width = .ok r ↔ width = 4 ∧ addr % 4 = 0 ∧ regAt c addr = some r := by
  unfold checkAccess
  split
  · next hw => simp [hw]
  · split
    · next hw ha => simp [ha]
    · next hw ha =>
      have hw' : width = 4 := by simpa using hw
      have ha' : addr % 4 = 0 := by simpa using ha
      cases regAt c addr <;> simp [hw', ha']

/-- A command runs, or its word raises ERR_OPCODE (R110). -/
theorem runCommand_cases {w : Word} {s t : State} (h : runCommand w s = .next t) :
    (∃ i, decode w = .ok i ∧ exec i (s.storeCmd w) = .next t) ∨
      (∃ e, decode w = .error e ∧ t = (s.storeCmd w).raise .opcode) := by
  unfold runCommand at h
  split at h
  · next i hi => exact .inl ⟨i, hi, h⟩
  · next e he => exact .inr ⟨e, he, by simpa using h.symm⟩

/-- A completed write ran a command or stored to one register (R83). -/
theorem busWrite_cases {addr width : Nat} {v : Word} {s t : State} (h : busWrite addr width v s = .next t) :
    width = 4 ∧ addr % 4 = 0 ∧
      ((regAt s.cfg addr = some .cmd ∧ runCommand v s = .next t) ∨
        ∃ r, r ≠ .cmd ∧ regAt s.cfg addr = some r ∧ storeReg s r v = some t) := by
  unfold busWrite at h
  split at h
  · cases h
  · next hc => exact ⟨(checkAccess_ok.mp hc).1, (checkAccess_ok.mp hc).2.1, .inl ⟨(checkAccess_ok.mp hc).2.2, h⟩⟩
  · next r hne hc =>
    refine ⟨(checkAccess_ok.mp hc).1, (checkAccess_ok.mp hc).2.1, .inr ⟨r, ?_, (checkAccess_ok.mp hc).2.2, ?_⟩⟩
    · rintro rfl; exact hne rfl
    · split at h
      · cases h
      · next u hu => rw [hu]; simpa using h

/-- A completed read told the host a register's value and changed nothing else (R83). -/
theorem busRead_cases {addr width : Nat} {s t : State} (h : busRead addr width s = .next t) :
    ∃ r, width = 4 ∧ addr % 4 = 0 ∧ regAt s.cfg addr = some r ∧ t = { s with reads := readReg s r :: s.reads } := by
  unfold busRead at h
  split at h
  · cases h
  · next r hr => exact ⟨r, (checkAccess_ok.mp hr).1, (checkAccess_ok.mp hr).2.1, (checkAccess_ok.mp hr).2.2, by simpa using h.symm⟩

/-- Everything a step can do: wait, read, store, run a command, or reset. -/
theorem step_cases {s t : State} (h : step s = .next t) :
    configWf s.cfg = true ∧
      ((s.host = [] ∧ t = s) ∨
        (∃ addr rest r, s.host = .memRead addr 4 :: rest ∧ addr % 4 = 0 ∧ regAt s.cfg addr = some r ∧
          t = { s.takeAccess rest with reads := readReg (s.takeAccess rest) r :: s.reads }) ∨
        (∃ addr v rest r, s.host = .memWrite addr 4 v :: rest ∧ addr % 4 = 0 ∧ r ≠ .cmd ∧ regAt s.cfg addr = some r ∧
          storeReg (s.takeAccess rest) r v = some t) ∨
        (∃ addr w rest, s.host = .memWrite addr 4 w :: rest ∧ addr % 4 = 0 ∧ regAt s.cfg addr = some .cmd ∧
          runCommand w (s.takeAccess rest) = .next t) ∨
        ∃ rest, s.host = .reset :: rest ∧ t = resetInput (s.takeReset rest)) := by
  unfold step instanceStep at h
  split at h
  · next hw =>
    refine ⟨hw, ?_⟩
    unfold hostStep at h
    split at h
    · next hh => exact .inl ⟨hh, by simpa using h.symm⟩
    · next addr width rest hh =>
      obtain ⟨r, rfl, ha, hr, rfl⟩ := busRead_cases h
      exact .inr (.inl ⟨addr, rest, r, hh, ha, hr, rfl⟩)
    · next addr width v rest hh =>
      obtain ⟨rfl, ha, hcase⟩ := busWrite_cases h
      rcases hcase with ⟨hr, hrun⟩ | ⟨r, hne, hr, hst⟩
      · exact .inr (.inr (.inr (.inl ⟨addr, v, rest, hh, ha, hr, hrun⟩)))
      · exact .inr (.inr (.inl ⟨addr, v, rest, r, hh, ha, hne, hr, hst⟩))
    · next rest hh => exact .inr (.inr (.inr (.inr ⟨rest, hh, by simpa using h.symm⟩)))
  · cases h

/-- What a store to a register changes: one of ARG0, ARG1, RXLEN, RXPTR or a word of RXBUF. -/
theorem storeReg_cases {s t : State} {r : Reg} {v : Word} (h : storeReg s r v = some t) :
    (r = .arg0 ∧ t = s.setArg0 v) ∨ (r = .arg1 ∧ t = s.setArg1 v) ∨ (r = .rxlen ∧ t = s.setRxlen v) ∨
      (r = .rxptr ∧ t = s.setRxptr v) ∨ (∃ i, r = .rxMark i ∧ t = s.setRxMark i v) ∨
      ∃ i, r = .rxSpace i ∧ t = s.setRxSpace i v := by
  cases r <;> simp [storeReg] at h <;> subst h <;> simp

/-- The ends of ENC_FIELD (R245). -/
theorem execEncField_cases {code : BitVec 3} {s t : State} (h : execEncField code s = .next t) :
    (5 < code.toNat ∧ t = s.raise .kind) ∨
      ∃ k, code = kindCode k ∧
        ((legal k s.arg0.toNat = true ∧ t = s.startCommand.loadTrain (encodeField s.cfg k s.arg0.toNat)) ∨
          (legal k s.arg0.toNat = false ∧ t = s.raise .value)) := by
  rcases withKind_cases h with hk | ⟨k, hk, hm⟩
  · exact .inl hk
  · refine .inr ⟨k, hk, ?_⟩
    split at hm
    · next hl => exact .inl ⟨hl, by simpa using hm.symm⟩
    · next hl => exact .inr ⟨by simpa using hl, by simpa using hm.symm⟩

/-- The ends of ENC_FEED (R281). -/
theorem execEncFeed_cases {code : BitVec 3} {s t : State} (h : execEncFeed code s = .next t) :
    (5 < code.toNat ∧ t = s.raise .kind) ∨
      ∃ k, code = kindCode k ∧
        ((encFeedTakes k s = true ∧
            t = ((s.startCommand.setCk .tx (encFeedTotal k s)).loadTrain (encodeField s.cfg k (encFeedValue k s))).setRes
              (fieldWord k (encFeedValue k s))) ∨
          (encFeedTakes k s = false ∧ t = s.raise .value)) := by
  rcases withKind_cases h with hk | ⟨k, hk, hm⟩
  · exact .inl hk
  · refine .inr ⟨k, hk, ?_⟩
    split at hm
    · next hl => exact .inl ⟨hl, by simpa using hm.symm⟩
    · next hl => exact .inr ⟨by simpa using hl, by simpa using hm.symm⟩

/-- The ends of ASM_FEED (R290). -/
theorem execAsmFeed_cases {code : BitVec 3} {s t : State} (h : execAsmFeed code s = .next t) :
    (5 < code.toNat ∧ t = s.raise .kind) ∨
      ∃ k, code = kindCode k ∧
        ((legal k s.arg0.toNat = true ∧ t = asmTransition k s.arg0 s.startCommand) ∨
          (legal k s.arg0.toNat = false ∧ t = s.raise .value)) := by
  rcases withKind_cases h with hk | ⟨k, hk, hm⟩
  · exact .inl hk
  · refine .inr ⟨k, hk, ?_⟩
    split at hm
    · next hl => exact .inl ⟨hl, by simpa using hm.symm⟩
    · next hl => exact .inr ⟨by simpa using hl, by simpa using hm.symm⟩

/-- The ways a transition of the assembler can end (R285, R290): it discards and reports, opens a message with a PACKET,
extends it with a DATA, completes it with its CHECKSUM, or emits a single field. -/
theorem asmTransition_cases (k : Kind) (v : Word) (s : State) :
    (∃ e, (e = .seq ∨ e = .cksum ∨ e = .overflow) ∧ asmTransition k v s = s.discard.report e) ∨
      (k = .packet ∧ s.asm = .idle ∧
        asmTransition k v s = (s.setCk .rx v).setCur [mkField .packet v.toNat]) ∨
      (k = .packet ∧ s.asm = .inMessage ∧ s.cfg.packetRestart = .restart ∧
        asmTransition k v s = ((s.discard.setCk .rx v).setCur [mkField .packet v.toNat]).report .seq) ∨
      (k = .data ∧ s.asm = .inMessage ∧ s.cur.length ≠ s.cfg.maxData + 1 ∧
        asmTransition k v s = (s.setCk .rx (s.ckRx + v)).setCur (s.cur ++ [mkField .data v.toNat])) ∨
      (k = .checksum ∧ s.asm = .inMessage ∧ ckValid s.ckRx v = true ∧
        asmTransition k v s = (s.emitMessage (s.cur ++ [mkField .checksum v.toNat])).finish) ∨
      ((k = .tag ∨ k = .beacon ∨ k = .ltarBeacon) ∧ s.asm = .idle ∧
        asmTransition k v s = s.emitMessage [mkField k v.toNat]) := by
  cases ha : s.asm <;> cases k <;> simp only [asmTransition, ha]
  case idle.packet => exact .inr (.inl ⟨trivial, trivial, rfl⟩)
  case idle.tag => simp
  case idle.beacon => simp
  case idle.ltarBeacon => simp
  case inMessage.packet =>
    cases hp : s.cfg.packetRestart
    · exact .inl ⟨.seq, .inl rfl, rfl⟩
    · exact .inr (.inr (.inl ⟨trivial, trivial, rfl, rfl⟩))
  case inMessage.data =>
    split
    · exact .inl ⟨.overflow, .inr (.inr rfl), rfl⟩
    · next hl => exact .inr (.inr (.inr (.inl ⟨trivial, trivial, hl, rfl⟩)))
  case inMessage.checksum =>
    split
    · next hv => exact .inr (.inr (.inr (.inr (.inl ⟨trivial, trivial, hv, rfl⟩))))
    · exact .inl ⟨.cksum, .inr (.inl rfl), rfl⟩
  all_goals exact .inl ⟨.seq, .inl rfl, rfl⟩

end Sys2Proof.Machine
end

