-- ==== Sys2Proof/Laws/Exec.lean ====
section
/-! SUPPORT. Everything a command can do: the inversion of `exec`, over which every statement about all commands is a case
analysis; and which address reaches CMD. -/

namespace Sys2Proof.Machine

/-- The codes the bit loop can fail with (R252). -/
theorem decodeBits_error {c : Config} {rxlen : Nat} {qs : List Pulse} {i v n : Nat} {sf : Bool} {e : ErrCode}
    (h : decodeBits c rxlen qs i v n sf = .error e) : e = .length ∨ e = .bit := by
  induction qs generalizing i v n sf with
  | nil => cases h
  | cons q qs ih =>
    rw [decodeBits_cons] at h
    split at h
    · cases h
    split at h
    · cases h
    split at h
    · cases h; simp
    · split at h
      · cases h; simp
      · exact ih h

/-- The codes a decode can fail with (R253). -/
theorem decodeField_error {c : Config} {rx : List Pulse} {rxlen start : Nat} {e : ErrCode}
    (h : decodeField c rx rxlen start = .error e) :
    e = .trunc ∨ e = .presync ∨ e = .header ∨ e = .length ∨ e = .bit ∨ e = .space ∨ e = .fieldKind := by
  unfold decodeField at h
  split at h
  · cases h; simp
  split at h
  · split at h
    · split at h
      · cases h; simp
      · split at h
        · next hb => cases h; rcases decodeBits_error hb with h | h <;> simp [h]
        · unfold acceptField at h
          split at h
          · cases h; simp
          split at h
          · cases h; simp
          · cases h
    · cases h; simp
  · cases h; simp

/-- Everything a command can do: raise an error, write RES, act on an accumulator, load a train, decode a field, feed the
assembler, or discard its message. -/
theorem exec_cases {i : Instr} {s t : State} (h : exec i s = .next t) :
    (∃ e, e ≠ .ok ∧ e ≠ .seq ∧ e ≠ .cksum ∧ e ≠ .overflow ∧ t = s.raise e) ∨
      (∃ v, i = .classify ∧ t = s.startCommand.setRes v) ∨
      (∃ v, (i = .dec2bcd ∨ i = .bcd2dec) ∧ t = s.startCommand.setRes v) ∨
      (∃ sel v, (i = .ckStart sel ∨ i = .ckAcc sel) ∧ t = s.startCommand.setCk sel v) ∨
      (∃ sel, i = .ckFinal sel ∧
        t = (s.startCommand.setCk sel (ckReduced (s.ck sel))).setRes (ckResult (s.ck sel))) ∨
      (∃ sel v, i = .ckValid sel ∧ t = s.startCommand.setRes v) ∨
      (∃ k, i = .encField (kindCode k) ∧ legal k s.arg0.toNat = true ∧
        t = s.startCommand.loadTrain (encodeField s.cfg k s.arg0.toNat)) ∨
      (∃ k, i = .encFeed (kindCode k) ∧ encFeedTakes k s = true ∧
        t = ((s.startCommand.setCk .tx (encFeedTotal k s)).loadTrain (encodeField s.cfg k (encFeedValue k s))).setRes
          (fieldWord k (encFeedValue k s))) ∨
      (∃ d, i = .decField ∧ decodeField s.cfg s.rxbuf s.rxlen s.rxptr = .ok d ∧
        t = (s.startCommand.setRes (fieldWord d.kind d.value)).advanceRxptr d.next) ∨
      (∃ k, i = .asmFeed (kindCode k) ∧ legal k s.arg0.toNat = true ∧ t = asmTransition k s.arg0 s.startCommand) ∨
      (i = .asmReset ∧ t = s.startCommand.discard) := by
  cases i with
  | classify => right; left; exact ⟨_, rfl, by simpa [exec, execClassify] using h.symm⟩
  | dec2bcd =>
    rcases finishConversion_cases (show finishConversion _ _ = _ from h) with ⟨n, _, rfl⟩ | ⟨_, rfl⟩
    · right; right; left; exact ⟨_, .inl rfl, rfl⟩
    · left; exact ⟨.domain, by decide, by decide, by decide, by decide, rfl⟩
  | bcd2dec =>
    rcases finishConversion_cases (show finishConversion _ _ = _ from h) with ⟨n, _, rfl⟩ | ⟨_, rfl⟩
    · right; right; left; exact ⟨_, .inr rfl, rfl⟩
    · left; exact ⟨.domain, by decide, by decide, by decide, by decide, rfl⟩
  | ckStart sel => right; right; right; left; exact ⟨sel, _, .inl rfl, by simpa [exec, execCkStart] using h.symm⟩
  | ckAcc sel => right; right; right; left; exact ⟨sel, _, .inr rfl, by simpa [exec, execCkAcc] using h.symm⟩
  | ckFinal sel => iterate 4 right
                   left; exact ⟨sel, rfl, by simpa [exec, execCkFinal] using h.symm⟩
  | ckValid sel => iterate 5 right
                   left; exact ⟨sel, _, rfl, by simpa [exec, execCkValid] using h.symm⟩
  | encField code =>
    rcases execEncField_cases h with ⟨_, rfl⟩ | ⟨k, rfl, ⟨hl, rfl⟩ | ⟨_, rfl⟩⟩
    · left; exact ⟨.kind, by decide, by decide, by decide, by decide, rfl⟩
    · iterate 6 right
      left; exact ⟨k, rfl, hl, rfl⟩
    · left; exact ⟨.value, by decide, by decide, by decide, by decide, rfl⟩
  | encFeed code =>
    rcases execEncFeed_cases h with ⟨_, rfl⟩ | ⟨k, rfl, ⟨hl, rfl⟩ | ⟨_, rfl⟩⟩
    · left; exact ⟨.kind, by decide, by decide, by decide, by decide, rfl⟩
    · iterate 7 right
      left; exact ⟨k, rfl, hl, rfl⟩
    · left; exact ⟨.value, by decide, by decide, by decide, by decide, rfl⟩
  | decField =>
    rcases execDecField_cases h with ⟨e, he, rfl⟩ | ⟨d, hd, rfl⟩
    · left
      have := decodeField_error he
      refine ⟨e, ?_, ?_, ?_, ?_, rfl⟩ <;> rcases this with h | h | h | h | h | h | h <;> subst h <;> decide
    · iterate 8 right
      left; exact ⟨d, rfl, hd, rfl⟩
  | asmFeed code =>
    rcases execAsmFeed_cases h with ⟨_, rfl⟩ | ⟨k, rfl, ⟨hl, rfl⟩ | ⟨_, rfl⟩⟩
    · left; exact ⟨.kind, by decide, by decide, by decide, by decide, rfl⟩
    · iterate 9 right
      left; exact ⟨k, rfl, hl, rfl⟩
    · left; exact ⟨.value, by decide, by decide, by decide, by decide, rfl⟩
  | asmReset => iterate 10 right
                exact ⟨rfl, by simpa [exec, execAsmReset] using h.symm⟩

/-- CMD is at address 0 (R46). -/
theorem regAt_zero (c : Config) : regAt c 0 = some .cmd := by simp [regAt, regInWindow, fixedRegs, regAddr, regMapped]

/-- No other address reaches CMD (R46). -/
theorem regAt_cmd {c : Config} {a : Nat} (h : regAt c a = some .cmd) : a = 0 := by
  unfold regAt regInWindow at h
  rw [Option.filter_eq_some_iff] at h
  have h := h.1
  split at h
  · have := List.find?_some h; simp [regAddr] at this; omega
  · repeat' split at h
    all_goals (try (simp [pulseReg, entryReg] at h))
    all_goals (repeat' split at h) <;> simp at h

end Sys2Proof.Machine
end

