-- ==== Sys2Proof/Laws/PerInstr.lean ====
section
/-! SUPPORT. A statement about every command as syntax, with one lemma per constructor: the encoding of a command lies in
its row of spec/opcode_table.json. -/

namespace Sys2Proof.Laws.TableRow

/-- Column "mask" of the command's row: the bits that are no operand. -/
def mask : Instr → Word
  | .classify => 0xFFFFFFFF
  | .dec2bcd => 0xFFFFFFFF
  | .bcd2dec => 0xFFFFFFFF
  | .ckStart _ => 0xFFFFF7FF
  | .ckAcc _ => 0xFFFFF7FF
  | .ckFinal _ => 0xFFFFF7FF
  | .ckValid _ => 0xFFFFF7FF
  | .encField _ => 0xFFFFF8FF
  | .encFeed _ => 0xFFFFF8FF
  | .decField => 0xFFFFFFFF
  | .asmFeed _ => 0xFFFFF8FF
  | .asmReset => 0xFFFFFFFF

/-- Column "match" of the command's row: the value of those bits. -/
def pattern : Instr → Word
  | .classify => 0x00000001
  | .dec2bcd => 0x00000002
  | .bcd2dec => 0x00000003
  | .ckStart _ => 0x00000010
  | .ckAcc _ => 0x00000011
  | .ckFinal _ => 0x00000012
  | .ckValid _ => 0x00000013
  | .encField _ => 0x00000020
  | .encFeed _ => 0x00000021
  | .decField => 0x00000022
  | .asmFeed _ => 0x00000030
  | .asmReset => 0x00000031

/-- The command's word, its operand bits masked off, is its row's pattern. -/
def Statement (i : Instr) : Prop := encode i &&& mask i = pattern i

theorem classify : Statement .classify := by unfold Statement; decide

theorem dec2bcd : Statement .dec2bcd := by unfold Statement; decide

theorem bcd2dec : Statement .bcd2dec := by unfold Statement; decide

theorem ckStart (sel : CkSel) : Statement (.ckStart sel) := by unfold Statement; cases sel <;> decide

theorem ckAcc (sel : CkSel) : Statement (.ckAcc sel) := by unfold Statement; cases sel <;> decide

theorem ckFinal (sel : CkSel) : Statement (.ckFinal sel) := by unfold Statement; cases sel <;> decide

theorem ckValid (sel : CkSel) : Statement (.ckValid sel) := by unfold Statement; cases sel <;> decide

theorem encField (kind : BitVec 3) : Statement (.encField kind) := by unfold Statement; revert kind; decide

theorem encFeed (kind : BitVec 3) : Statement (.encFeed kind) := by unfold Statement; revert kind; decide

theorem decField : Statement .decField := by unfold Statement; decide

theorem asmFeed (kind : BitVec 3) : Statement (.asmFeed kind) := by unfold Statement; revert kind; decide

theorem asmReset : Statement .asmReset := by unfold Statement; decide

end Sys2Proof.Laws.TableRow
end

