-- ==== Sys2Proof/Tests/Slice0.lean ====
section
/-! SUPPORT. The model's own tests: expected results from spec/95_test_vectors.md or worked out from the numbered rules, and
for every statement with hypotheses a concrete state and operands that meet them. -/

namespace Sys2Proof.Tests

open Sys2Proof Sys2Proof.Machine

/-! ## Helpers -/

/-- REFCFG with the smallest capacities R9 admits. -/
def cfg : Config := { Config.refcfg with rxCap := 13, maxData := 9 }

/-- The reset state of that instance with RXBUF all zero, one of its draws. -/
def s0 : State := { State.resetOf cfg 0 with rxbuf := List.replicate 13 ⟨0, 0⟩ }

/-- Inside the message PACKET 5, DATA 3 (95_test_vectors.md section 7). -/
def inside : State := { s0 with asm := .inMessage, cur := [mkField .packet 5, mkField .data 3], ckRx := 8 }

/-- Inside a message that holds MAX_DATA DATA fields. -/
def full : State :=
  { s0 with asm := .inMessage, cur := mkField .packet 0 :: List.replicate 9 (mkField .data 1), ckRx := 9 }

/-- The state a run of one command ends in, if it completes. -/
def after : Result → Option State
  | .next t => some t
  | .fault _ => none
  | .refused _ => none

/-- The pulses of the table of 95_test_vectors.md. -/
def PS : Pulse := ⟨3000, 6000⟩
def HT : Pulse := ⟨3000, 2000⟩
def HB : Pulse := ⟨6000, 2000⟩
def b1 : Pulse := ⟨2000, 2000⟩
def b0 : Pulse := ⟨1000, 2000⟩
def GF : Pulse := ⟨12500, 12500⟩
def GT : Pulse := ⟨28000, 28000⟩
def GC : Pulse := ⟨40000, 40000⟩
def S : Pulse := ⟨0, 0⟩

/-- The train of PACKET 5 (section 4). -/
def P5 : List Pulse := [PS, HT, b0, b0, b0, b0, b0, b0, b1, b0, b1, GF]

/-- A state whose RXBUF starts with some pulses, RXLEN being their number. -/
def holding (ps : List Pulse) : State := { s0 with rxbuf := ps ++ List.replicate (13 - ps.length) ⟨0, 0⟩, rxlen := ps.length }

/-! ## Ill-formed commands and instances are refused -/

theorem test_wf_enc_field : Instr.wf (.encField 6) = false ∧ Instr.wf (.encField 5) = true := by decide

theorem test_wf_enc_feed : Instr.wf (.encFeed 7) = false ∧ Instr.wf (.encFeed 0) = true := by decide

theorem test_wf_asm_feed : Instr.wf (.asmFeed 6) = false ∧ Instr.wf (.asmFeed 2) = true := by decide

/-- W1 to W4 of R231 and the ranges of R9, one instance that breaks each. -/
theorem test_wf_instance :
    configWf { cfg with tPsM := 0 } = false ∧ configWf { cfg with gTag := 1 } = false ∧
      configWf { cfg with tHdrBc := 3600 } = false ∧ configWf { cfg with tB1 := 1200 } = false ∧
      configWf { cfg with gField := 4000 } = false ∧ configWf { cfg with rxCap := 12 } = false ∧
      configWf { cfg with maxData := 63 } = false ∧ configWf cfg = true := by decide

/-! ## Decoding, with words written out from R111 and R113 -/

theorem test_decode_classify : decode 0b00000000000000000000_0_000_00000001 = .ok .classify := by decide

theorem test_decode_dec2bcd : decode 0b00000000000000000000_0_000_00000010 = .ok .dec2bcd := by decide

theorem test_decode_bcd2dec : decode 0b00000000000000000000_0_000_00000011 = .ok .bcd2dec := by decide

theorem test_decode_ck_start : decode 0b00000000000000000000_1_000_00010000 = .ok (.ckStart .rx) := by decide

theorem test_decode_ck_acc : decode 0b00000000000000000000_0_000_00010001 = .ok (.ckAcc .tx) := by decide

theorem test_decode_ck_final : decode 0b00000000000000000000_1_000_00010010 = .ok (.ckFinal .rx) := by decide

theorem test_decode_ck_valid : decode 0b00000000000000000000_0_000_00010011 = .ok (.ckValid .tx) := by decide

theorem test_decode_enc_field : decode 0b00000000000000000000_0_011_00100000 = .ok (.encField 3) := by decide

theorem test_decode_enc_feed : decode 0b00000000000000000000_0_001_00100001 = .ok (.encFeed 1) := by decide

theorem test_decode_dec_field : decode 0b00000000000000000000_0_000_00100010 = .ok .decField := by decide

theorem test_decode_asm_feed : decode 0b00000000000000000000_0_010_00110000 = .ok (.asmFeed 2) := by decide

theorem test_decode_asm_reset : decode 0b00000000000000000000_0_000_00110001 = .ok .asmReset := by decide

/-- 95_test_vectors.md section 8, and the order of the checks of R110. -/
theorem test_decode_rejects :
    decode 0x00000000 = .error .reservedOp ∧ decode 0x00000023 = .error .reservedOp ∧
      decode 0xFFFFFFFF = .error .reservedOp ∧ decode 0x00001001 = .error .reservedBits ∧
      decode 0x80000022 = .error .reservedBits ∧ decode 0x00000101 = .error .unusedKind ∧
      decode 0x00000710 = .error .unusedKind ∧ decode 0x00000801 = .error .unusedCksel ∧
      decode 0x00000F21 = .error .unusedCksel ∧ decodeBytes [0x22, 0, 0] = .error .notOneWord := by decide

/-- Every byte lane counts: bits [15:8] lie in the second byte (R81). -/
theorem test_decode_bytes :
    decodeBytes [0x21, 0x01, 0, 0] = .ok (.encFeed 1) ∧ decodeTableWord 32 0x810 = some (.ckStart .rx) ∧
      decodeTableWord 8 0x22 = some .decField ∧ decodeTableWord 40 0x22 = none := by decide

/-! ## One step of each command -/

/-- Section 1: 1200 against 1000 accepts. -/
theorem test_classify_accepts :
    (after (exec .classify { s0 with arg0 := 1200, arg1 := 1000 })).map (·.res) = some 1 := by decide

/-- Section 1: 0xCCCCCCCB is one below four fifths of 0xFFFFFFFF. -/
theorem test_classify_rejects :
    (after (exec .classify { s0 with arg0 := 0xCCCCCCCB, arg1 := 0xFFFFFFFF, res := 7 })).map (·.res) = some 0 := by
  decide

/-- Section 2: 100 is the sentinel. -/
theorem test_dec2bcd_sentinel :
    (after (exec .dec2bcd { s0 with arg0 := 100 })).map (·.res) = some 0xFF := by decide

/-- Section 2: 101 raises ERR_DOMAIN and RES stays. -/
theorem test_dec2bcd_domain :
    (after (exec .dec2bcd { s0 with arg0 := 101, res := 0x1234 })).map (fun t => (t.res, t.err)) =
      some (0x1234, .domain) := by decide

/-- Section 2: 0x42 is 42. -/
theorem test_bcd2dec : (after (exec .bcd2dec { s0 with arg0 := 0x42 })).map (·.res) = some 42 := by decide

/-- Section 2: 0x9F is 105 under ARITH. -/
theorem test_bcd2dec_arith :
    (after (exec .bcd2dec { s0 with arg0 := 0x9F, cfg := { cfg with bcd2decInvalid := .arith } })).map (·.res) =
      some 105 := by decide

/-- R201: 0x1FF is stored whole, in the accumulator CKSEL names. -/
theorem test_ck_start :
    (after (exec (.ckStart .rx) { s0 with arg0 := 0x1FF, ckTx := 3 })).map (fun t => (t.ckRx, t.ckTx)) =
      some (0x1FF, 3) := by decide

/-- Section 3: the sum wraps. -/
theorem test_ck_acc_wraps :
    (after (exec (.ckAcc .rx) { s0 with arg0 := 1, ckRx := 0xFFFFFFFF })).map (·.ckRx) = some 0 := by decide

/-- Section 3: a total of 1020 gives 508 and leaves 252. -/
theorem test_ck_final :
    (after (exec (.ckFinal .tx) { s0 with ckTx := 1020 })).map (fun t => (t.ckTx, t.res)) = some (252, 508) := by decide

/-- Section 3: bit 8 is masked. -/
theorem test_ck_valid :
    (after (exec (.ckValid .tx) { s0 with arg0 := 264, ckTx := 264 })).map (·.res) = some 1 := by decide

/-- Section 3: bit 9 survives the mask. -/
theorem test_ck_valid_bit9 :
    (after (exec (.ckValid .tx) { s0 with arg0 := 520, ckTx := 8, res := 7 })).map (·.res) = some 0 := by decide

/-- The example of R245: TAG 85. -/
theorem test_enc_field_tag :
    (after (exec (.encField 3) { s0 with arg0 := 85 })).map (fun t => (t.txbuf, t.txlen)) =
      some ([PS, HT, b1, b0, b1, b0, b1, b0, b1, GT, S, S, S], 11) := by decide

/-- Section 4: BEACON 31 is the shortest train, and what lay past it is zeroed. -/
theorem test_enc_field_beacon :
    (after (exec (.encField 4) { s0 with arg0 := 31, txbuf := List.replicate 13 GC, txlen := 13 })).map (·.txbuf) =
      some [PS, HB, b1, b1, b1, b1, b1, GF, S, S, S, S, S] := by decide

/-- Section 6: a CHECKSUM feed ignores ARG0. -/
theorem test_enc_feed_checksum :
    (after (exec (.encFeed 2) { s0 with arg0 := 0xFFFFFFFF })).map (fun t => (t.res, t.err)) = some (0x00020100, .ok) := by
  decide

/-- Section 6: DATA 256 raises ERR_VALUE and changes nothing else. -/
theorem test_enc_feed_value :
    (after (exec (.encFeed 1) { s0 with arg0 := 256, ckTx := 5, res := 5 })).map (fun t => (t.err, t.ckTx, t.res)) =
      some (.value, 5, 5) := by decide

/-- Section 5: the train of PACKET 5. -/
theorem test_dec_field :
    (after (exec .decField (holding P5))).map (fun t => (t.res, t.rxptr, t.err)) = some (5, 12, .ok) := by decide

/-- Section 5: an abort beats an earlier space mismatch. -/
theorem test_dec_field_bit :
    (after (exec .decField (holding [PS, HT, b0, ⟨1000, 2500⟩, b0, b0, ⟨1400, 2000⟩, b0, b1, b0, b1, GF]))).map
      (fun t => (t.err, t.rxptr)) = some (.bit, 0) := by decide

/-- Section 7: CHECKSUM 264 completes PACKET 5, DATA 3. -/
theorem test_asm_feed_delivers :
    (after (exec (.asmFeed 2) { inside with arg0 := 264 })).map
      (fun t => (t.msgout.map Field.word, t.emit, t.asm, t.ckRx)) =
        some ([0x5, 0x10003, 0x20108], true, .idle, 8) := by decide

/-- Section 7: a second PACKET under RESTART. -/
theorem test_asm_feed_restart :
    (after (exec (.asmFeed 0) { inside with arg0 := 7, cfg := { cfg with packetRestart := .restart } })).map
      (fun t => (statusWord t, t.cur.map Field.word, t.ckRx)) = some (0x10C, [0x7], 7) := by decide

/-- The example of R300. -/
theorem test_asm_reset :
    (after (exec .asmReset { inside with msgout := [mkField .tag 85] })).map
      (fun t => (t.asm, t.cur, t.ckRx, t.msgout.length)) = some (.idle, [], 0, 1) := by decide

/-! ## The bus, the notation, the sizes -/

/-- The machine runs the word the host writes first (R110), and the index counts it (R32). -/
theorem test_step_after_reset :
    (after (step (State.reset.withFetchWord 32 0x221))).map (fun t => (t.res, t.cmd, t.hostIndex)) =
      some (0x00020100, 0x221, 1) := by decide

/-- R46: the first and the last word of each window, and the first address past each bound. -/
theorem test_register_map :
    regAt cfg 0x160 = some (.txMark 12) ∧ regAt cfg 0x164 = some (.txSpace 12) ∧ regAt cfg 0x168 = none ∧
      regAt cfg 0x228 = some (.msgout 10) ∧ regAt cfg 0x22C = none ∧ regAt cfg 0x324 = some (.cur 9) ∧
      regAt cfg 0x328 = none ∧ regAt cfg 0x1064 = some (.rxSpace 12) ∧ regAt cfg 0x1068 = none ∧
      regAt cfg 0x06C = none ∧ regAt cfg 0x078 = some .pOptions ∧ regAt Config.refcfg 0x1FFC = some (.rxSpace 511) := by
  decide

/-- Program P1: the accesses of the text. -/
theorem test_text :
    textActions "P5:D3:C0:".toList =
      [.memWrite 4 4 5, .memWrite 0 4 0x21, .memWrite 4 4 3, .memWrite 0 4 0x121, .memWrite 4 4 0,
        .memWrite 0 4 0x221] := by decide

/-- R132: what the reader refuses, and the blanks it strips. -/
theorem test_text_refusals :
    readText "X5:".toList = .error (.badType 0) ∧ readText "P5".toList = .error (.missingColon 2) ∧
      readText "P:".toList = .error (.noDigits 1) ∧ readText "P4294967296:".toList = .error (.tooLarge 11) ∧
      readText " T85: ".toList = .ok [⟨.tag, 85⟩] := by decide

/-- R391: on-air lengths under REFCFG. -/
theorem test_on_air :
    onAirTicks (encodeField cfg .tag 85) = 95000 ∧ onAirTicks (encodeField cfg .data 3) = 65000 := by decide

/-- The buffers have their sizes after reset. -/
theorem test_memory_wf_reset : Memory.wf State.reset = true := Memory.resetOf_wf _ _

/-! ## Witnesses: the hypotheses of each statement are met -/

theorem witness_DecodedWordIsTheCommandsEncoding : decode 0x00000810 = .ok (.ckStart .rx) := by decide

/-- Each of the four ERR_OPCODE reasons, KIND 6 and 7, a good word at KIND 5, and a host write to CMD. -/
theorem witness_CommandCycleChecksInOrder :
    after (runCommand 0x00 s0) = some { s0 with cmd := 0x00, err := .opcode } ∧
      after (runCommand 0x1022 s0) = some { s0 with cmd := 0x1022, err := .opcode } ∧
      after (runCommand 0x101 s0) = some { s0 with cmd := 0x101, err := .opcode } ∧
      after (runCommand 0xF21 s0) = some { s0 with cmd := 0xF21, err := .opcode } ∧
      after (runCommand 0x620 s0) = some { s0 with cmd := 0x620, err := .kind } ∧
      after (runCommand 0x730 s0) = some { s0 with cmd := 0x730, err := .kind } ∧
      (after (runCommand 0x530 s0)).map (·.emit) = some true ∧
      (after (step { s0 with host := [.memWrite 0 4 0x22] })).map (·.err) = some .trunc := by decide

theorem witness_StepRunsTheDecodedCommand :
    configWf s0.cfg = true ∧ decode 0x00000022 = .ok .decField ∧ decode 0x00000032 = .error .reservedOp ∧
      { s0 with host := [.memWrite 0 4 0x22, .reset] }.host = .memWrite 0x000 4 0x22 :: [.reset] := by decide

theorem witness_RaisedErrorChangesOnlyCmdAndStatus :
    ∃ t, runCommand 0x22 s0 = .next t ∧ t.err ≠ .ok ∧ t.err ≠ .seq ∧ t.err ≠ .cksum ∧ t.err ≠ .overflow :=
  ⟨_, rfl, by decide⟩

/-- Each reported code; a PACKET inside a message under both settings of PACKET_RESTART, and a TAG there under RESTART. -/
theorem witness_ReportedErrorDiscardsTheMessage :
    (after (exec (.asmFeed 1) s0)).map (·.err) = some .seq ∧
      (after (exec (.asmFeed 0) { inside with cfg := { cfg with packetRestart := .restart } })).map
        (fun t => (t.err, t.asm)) = some (.seq, .inMessage) ∧
      (after (exec (.asmFeed 0) inside)).map (fun t => (t.err, t.asm)) = some (.seq, .idle) ∧
      (after (exec (.asmFeed 3) { inside with cfg := { cfg with packetRestart := .restart } })).map
        (fun t => (t.err, t.asm)) = some (.seq, .idle) ∧
      (after (exec (.asmFeed 2) { inside with arg0 := 265 })).map (·.err) = some .cksum ∧
      (after (exec (.asmFeed 1) full)).map (·.err) = some .overflow := by decide

/-- The first values past each kind's range, and the last below CHECKSUM's. -/
theorem witness_IllegalFieldRaisesErrValue :
    legal .packet 256 = false ∧ legal .data 256 = false ∧ legal .checksum 255 = false ∧ legal .checksum 512 = false ∧
      legal .tag 128 = false ∧ legal .beacon 32 = false ∧ legal .ltarBeacon 512 = false := by decide

theorem witness_CommandsWriteOnlyTheirRegisters :
    (∃ t, exec .asmReset inside = .next t) ∧ commandWrites .asmReset (.msgout 0) = false := ⟨⟨_, rfl⟩, by decide⟩

theorem witness_ResultWrittenOnlyOnSuccess :
    (∃ t, exec .classify s0 = .next t ∧ t.res ≠ s0.res) ∧ configWf s0.cfg = true ∧
      { s0 with host := [.memWrite 0x00C 4 1] }.host = .memWrite 0x00C 4 1 :: [] := ⟨⟨_, rfl, by decide⟩, by decide⟩

/-- The assembler moved by ASM_FEED, by ASM_RESET and by the reset input. -/
theorem witness_OnlyAssemblerCommandsMoveTheAssembler :
    (after (step { s0 with host := [.memWrite 0 4 0x30] })).map (·.asm) = some .inMessage ∧
      (after (step { inside with host := [.memWrite 0 4 0x31] })).map (·.asm) = some .idle ∧
      (after (step { inside with host := [.reset] })).map (·.asm) = some .idle := by decide

/-- No message, a framed message and a single field. -/
theorem witness_EmitLatchesTheCompletedMessage :
    (after (exec .asmReset inside)).map (·.emit) = some false ∧
      (after (exec (.asmFeed 2) { inside with arg0 := 264 })).map (·.emit) = some true ∧
      (after (exec (.asmFeed 5) { s0 with arg0 := 511 })).map (·.emit) = some true := by decide

theorem witness_ParameterRegistersAreConstant : ∃ t, step { s0 with host := [.memWrite 0x004 4 9] } = .next t :=
  ⟨_, rfl⟩

theorem witness_ResetPutsEveryRegisterInItsResetValue :
    configWf inside.cfg = true ∧ { inside with host := [.reset, .memRead 0 4] }.host = .reset :: [.memRead 0 4] := by
  decide

theorem witness_ResetStateMeetsTheInvariant : configWf cfg = true := by decide

/-- TXBUF all zero reads 0 everywhere. -/
theorem pulseAt_zeros (n i : Nat) : pulseAt (List.replicate n ⟨0, 0⟩) i = zeroPulse := by
  simp only [pulseAt, List.getD_eq_getElem?_getD, List.getElem?_replicate]
  split <;> rfl

/-- A state inside a message meets the invariant. -/
theorem inside_inv : inside.Inv where
  config := by decide
  memory := by decide
  txlenBound := by decide
  txTail i _ := pulseAt_zeros 13 i
  rxlenBound := by decide
  rxptrBound := by decide
  asmCur := by decide
  curShape _ := ⟨mkField .packet 5, [mkField .data 3], rfl, rfl, rfl, fun d hd => by
    rw [List.mem_singleton] at hd; subst hd; exact ⟨rfl, rfl⟩⟩
  curBound := by decide
  msgShape := .inl rfl

/-- The invariant holds and a step is taken that changes the assembler. -/
theorem witness_EveryStepKeepsTheInvariant :
    { inside with host := [.memWrite 0 4 0x31] }.Inv ∧
      ∃ t, step { inside with host := [.memWrite 0 4 0x31] } = .next t ∧ t.asm ≠ inside.asm :=
  ⟨{ inside_inv with }, _, rfl, by decide⟩

theorem inside_running : RunningTotal inside := fun _ => rfl

/-- The message completes: its CHECKSUM is emitted. -/
theorem witness_RunningTotalIsTheSumOfTheMessage :
    { inside with arg0 := 264 }.Inv ∧ RunningTotal { inside with arg0 := 264 } ∧
      ∃ t, exec (.asmFeed 2) { inside with arg0 := 264 } = .next t ∧ t.emit = true :=
  ⟨{ inside_inv with }, inside_running, _, rfl, rfl⟩

/-- Two states that differ on the host's side only. -/
theorem witness_RegisterMapShowsTheWholeState :
    { inside with host := [.reset] }.Inv ∧ { inside with reads := [7] }.Inv ∧
      ∀ r, readReg { inside with host := [.reset] } r = readReg { inside with reads := [7] } r :=
  ⟨{ inside_inv with }, { inside_inv with }, fun r => by cases r <;> rfl⟩

theorem witness_RegisterMapGivesEachAddressItsRegister :
    configWf cfg = true ∧ regAt cfg 0x1064 = some (.rxSpace 12) ∧ regMapped cfg (.rxSpace 13) = false ∧
      regMapped Config.refcfg (.rxSpace 511) = true ∧ regMapped cfg (.msgout 10) = true ∧
      regMapped cfg (.cur 9) = true ∧ inside.txbuf[12]? = some ⟨0, 0⟩ ∧ inside.rxbuf[12]? = some ⟨0, 0⟩ ∧
      inside.cur[1]? = some (mkField .data 3) ∧ inside.cur.length ≤ 2 ∧ inside.msgout.length ≤ 0 ∧
      ({ inside with msgout := [mkField .tag 85] } : State).msgout[0]? = some (mkField .tag 85) := by decide

theorem witness_ReadsAnswerAndChangeNothing :
    configWf inside.cfg = true ∧ { inside with host := [.memRead 0x010 4] }.host = .memRead 0x010 4 :: [] ∧
      regAt inside.cfg 0x010 = some .status := by decide

/-- Each register that stores, the clamp of RXLEN and RXPTR among them. -/
theorem witness_StoringWritesChangeOneRegister :
    configWf s0.cfg = true ∧ Memory.wf s0 = true ∧
      (([0x004, 0x008, 0x020, 0x024, 0x1000, 0x1064].map (regAt s0.cfg)) =
        [some .arg0, some .arg1, some .rxlen, some .rxptr, some (.rxMark 0), some (.rxSpace 12)]) ∧
      (after (step { s0 with host := [.memWrite 0x020 4 14] })).map (·.rxlen) = some 13 ∧
      (after (step { s0 with host := [.memWrite 0x024 4 13] })).map (·.rxptr) = some 13 := by decide

/-- An access that is served, and one refused for each reason of R82. -/
theorem witness_RefusedAccessesAreStuck :
    (after (step { s0 with host := [.memRead 0x074 4] })).map (·.reads) = some [9] ∧
      after (step { s0 with host := [.memRead 0x074 2] }) = none ∧
      after (step { s0 with host := [.memRead 0x075 4] }) = none ∧
      after (step { s0 with host := [.memRead 0x1068 4] }) = none ∧
      after (step { s0 with host := [.memWrite 0x074 4 9] }) = none ∧
      (after (step { s0 with host := [.memWrite 0x1064 4 9] })).isSome = true := by decide

/-- The idle step, an access and the reset input. -/
theorem witness_EachAccessAdvancesTheHostsIndex :
    configWf s0.cfg = true ∧ s0.host = [] ∧
      (after (step { s0 with hostIndex := 4, host := [.memRead 0 4] })).map (·.hostIndex) = some 5 ∧
      (after (step { s0 with hostIndex := 4, host := [.reset] })).map (·.hostIndex) = some 4 := by decide

theorem witness_IllFormedInstanceIsRefused : configWf { s0 with cfg := { cfg with tB0 := 2000 } }.cfg = false := by
  decide

theorem witness_ClassifyWindowIsFourToSixFifths : (4 : Word).toNat ≤ 4 ∧ classify 4 4 = true ∧ classify 4 5 = true := by
  decide

/-- The smallest and the largest scale. -/
theorem witness_ClassifyBoundariesOfTheSource : 121 * 1 < 2 ^ 32 ∧ 121 * 35495597 < 2 ^ 32 := by decide

/-- The values where the clauses meet: 99, 100, 101. -/
theorem witness_Dec2bcdPacksTwoDigits :
    [99, 100, 101].map (fun n => (after (exec .dec2bcd { s0 with arg0 := n })).map fun t => (t.res, t.err)) =
      [some (0x99, .ok), some (0xFF, .ok), some (0, .domain)] := by decide

/-- The values where the clauses meet, under REJECT. -/
theorem witness_Bcd2decUnpacksTwoDigits :
    [0x99, 0x9A, 0xA0, 0xFE, 0xFF, 0x100].map
        (fun b => (after (exec .bcd2dec { s0 with arg0 := b })).map fun t => (t.res, t.err)) =
      [some (99, .ok), some (0, .domain), some (0, .domain), some (0, .domain), some (255, .ok), some (0, .domain)] := by
  decide

theorem witness_BcdPairInvertsBelowOneHundred :
    { s0 with arg0 := 99 }.arg0.toNat ≤ 100 ∧ { s0 with arg0 := 100 }.arg0.toNat ≤ 100 := by decide

theorem witness_ChecksumLawOfTheDirectCommands : (264 : Word).getLsbD 8 = true := by decide

theorem witness_TrainLayoutOfALegalField : legal .ltarBeacon 511 = true ∧ legal .checksum 256 = true := by decide

theorem witness_EncFieldWritesTheTrain :
    legal .tag { s0 with arg0 := 127 }.arg0.toNat = true ∧ legal .tag { s0 with arg0 := 128 }.arg0.toNat = false ∧
      5 < (6 : BitVec 3).toNat := by decide

theorem witness_DecFieldWritesTheDecodedField :
    decodeField cfg (holding P5).rxbuf (holding P5).rxlen 0 = .ok ⟨.packet, 5, 12⟩ ∧
      decodeField cfg (holding P5).rxbuf (holding P5).rxlen 12 = .error .trunc := by decide

theorem witness_DecoderIsThePulseMachine : 12 ≤ P5.length := by decide

theorem witness_DecodeReadsOnlyTheValidPulses :
    11 ≤ P5.length ∧ 11 ≤ (P5.take 11).length ∧ ∀ i, 0 ≤ i → i < 11 → P5[i]? = (P5.take 11)[i]? := by decide

/-- Each clause: no pre-sync, no header, a bad mark, a tenth bit, a bad space, a kind that is not in the lookup; and each
of the three ends. -/
theorem witness_DecodeFailuresInOrder :
    isPresync cfg HT = false ∧ isPresync cfg PS = true ∧ headerFamily cfg ⟨4000, 2000⟩ = none ∧
      headerFamily cfg HT = some .tp ∧
      (∀ b ∈ List.replicate 9 b0, isSentinel b = false ∧ isGap cfg b = false ∧ (bitOf cfg b).isSome = true) ∧
      (isSentinel ⟨1400, 2000⟩ = false ∧ isGap cfg ⟨1400, 2000⟩ = false ∧ bitOf cfg ⟨1400, 2000⟩ = none) ∧
      (isSentinel GF = false ∧ isGap cfg GF = true) ∧ isSentinel S = true ∧ P5.length < 11 + 2 ∧
      (isSentinel b1 = false ∧ isGap cfg b1 = false ∧ (bitOf cfg ⟨1000, 2500⟩).isSome = true) ∧
      classify (2500 : Word) cfg.tBs = false ∧ classify b0.space cfg.tBs = true ∧ isGap cfg ⟨1000, 2500⟩ = false := by
  decide

/-- Section 5: "P5 pulses 0 to 9, then (1000, 0)" ends with the valid data, here from index 1. -/
theorem witness_DecodeFailuresInOrder_end :
    (after (exec .decField { s0 with
      rxbuf := S :: P5.take 10 ++ [⟨1000, 0⟩, GF], rxlen := 12, rxptr := 1 })).map (·.err) = some .space := by decide

theorem witness_DecodeFailuresInOrder_lookup : ∀ v, lookup .tp 6 v = none := fun _ => rfl

theorem witness_EncodedFieldDecodesToItself :
    ∃ t, exec (.encField (kindCode .packet)) { s0 with arg0 := 5 } = .next t ∧ configWf s0.cfg = true ∧
      legal .packet 5 = true ∧ (holding P5).cfg = s0.cfg ∧ (holding P5).rxlen = t.txlen ∧ (holding P5).rxptr = 0 ∧
      (holding P5).rxbuf.take t.txlen = t.txbuf.take t.txlen := ⟨_, rfl, by decide⟩

/-- The noisy train of PACKET 5 of section 5: every mark times 1.2 and every space times 0.8. -/
theorem witness_NoisyTrainDecodesToTheField :
    List.Forall₂ (fun q p : Pulse => classify q.mark p.mark = true ∧ classify q.space p.space = true)
      (P5.map fun p : Pulse => ⟨BitVec.ofNat 32 (p.mark.toNat * 6 / 5), BitVec.ofNat 32 (p.space.toNat * 4 / 5)⟩)
      (encodeField cfg .packet 5) := by
  repeat' constructor

theorem witness_ConcatenatedTrainsDecodeInTurn :
    configWf cfg = true ∧ legal .data 3 = true ∧ startsWithSentinel (encodeField cfg .checksum 264) = false ∧
      startsWithSentinel [] = false := by decide

theorem witness_EncFeedEncodesAndTracksTheChecksum :
    legal .packet 255 = true ∧ legal .data 255 = true ∧ legal .beacon 31 = true ∧ legal .beacon 32 = false ∧
      5 < (7 : BitVec 3).toNat := by decide

/-- A TAG feed after the PACKET, and an ENC_FIELD and an ASM_FEED after a DATA, are commands that keep CK_TX. -/
theorem witness_EncodeRecipeSendsTheChecksum :
    (200 : Word).toNat ≤ 255 ∧ (100 : Word).toNat ≤ 255 ∧
      ∀ i ∈ [Instr.encFeed 3, .encField 1, .asmFeed 0],
        i ∉ [.ckStart .tx, .ckAcc .tx, .ckFinal .tx, .encFeed 0, .encFeed 1, .encFeed 2] := by
  refine ⟨by simp, by simp, by decide⟩

/-- A state and operands for each row, at the boundary of MAX_DATA. -/
theorem witness_AsmFeedFollowsTheTransitionTable :
    s0.asm = .idle ∧ inside.asm = .inMessage ∧ legal .packet 255 = true ∧ legal .data 255 = true ∧
      legal .checksum 264 = true ∧ legal .tag 127 = true ∧ inside.cur.length ≠ cfg.maxData + 1 ∧
      full.asm = .inMessage ∧ full.cur.length = cfg.maxData + 1 ∧ 264 % 256 = inside.ckRx.toNat % 256 ∧
      265 % 256 ≠ inside.ckRx.toNat % 256 ∧ cfg.packetRestart = .drop ∧ legal .tag 128 = false ∧
      5 < (6 : BitVec 3).toNat := by decide

/-- A message of as many DATA fields as the instance takes, with the right CHECKSUM and with another. -/
theorem witness_FedMessageIsDeliveredOrDiscarded :
    s0.asm = .idle ∧ (∀ d ∈ List.replicate 9 (255 : Word), d.toNat ≤ 255) ∧
      (List.replicate 9 (255 : Word)).length ≤ s0.cfg.maxData ∧ 256 ≤ (502 : Word).toNat ∧ (503 : Word).toNat ≤ 511 ∧
      (502 : Word).toNat = (255 + ((List.replicate 9 (255 : Word)).map fun d => d.toNat).sum) % 256 + 256 := by simp [s0, cfg, State.resetOf]

/-- A PACKET and its CHECKSUM back to back in RXBUF, from index 1 on. -/
theorem witness_SentMessageIsReceived :
    ∃ s : State, configWf s.cfg = true ∧ s.asm = .idle ∧ s.rxptr = 1 ∧
      s.rxlen = 1 + (messageTrain s.cfg [(.packet, 5), (.checksum, 261)]).length ∧
      (s.rxbuf.take s.rxlen).drop 1 = messageTrain s.cfg [(.packet, 5), (.checksum, 261)] ∧
      (5 + [].sum) % 256 + 256 = 261 :=
  ⟨{ s0 with
      cfg := { cfg with rxCap := 26 }, rxptr := 1, rxlen := 26,
      rxbuf := S :: messageTrain cfg [(.packet, 5), (.checksum, 261)] }, by decide⟩

theorem witness_LoadRxLoadsThePulses :
    configWf s0.cfg = true ∧ Memory.wf s0 = true ∧ (P5 ++ [S]).length ≤ s0.cfg.rxCap ∧
      { s0 with host := expandLine (.loadRx (P5 ++ [S])) }.host = expandLine (.loadRx (P5 ++ [S])) := by decide

theorem witness_TokensSendTheComputedChecksum :
    configWf s0.cfg = true ∧ (5 : Word).toNat ≤ 255 ∧ (∀ d ∈ [(3 : Word)], d.toNat ≤ 255) ∧
      textActions "P5:D3:C0:".toList =
        expandLines (.token .packet 5 :: [3].map (fun d => .token .data d) ++ [.token .checksum 0]) :=
  ⟨by decide, by decide, by simp, by decide⟩

end Sys2Proof.Tests
end

/-! ## Frames of the commands and of the step, and the statements of 10_state.md over every step (R34, R37, R44, R45) -/

namespace Sys2Proof.Machine

/-! What a transition of the assembler leaves unchanged (R290). -/

@[simp] theorem asmTransition_cfg (k : Kind) (v : Word) (s : State) : (asmTransition k v s).cfg = s.cfg := by
  rcases asmTransition_cases k v s with
    ⟨_, _, h⟩ | ⟨_, _, h⟩ | ⟨_, _, _, h⟩ | ⟨_, _, _, h⟩ | ⟨_, _, _, h⟩ | ⟨_, _, h⟩
  all_goals simp [h]

@[simp] theorem asmTransition_res (k : Kind) (v : Word) (s : State) : (asmTransition k v s).res = s.res := by
  rcases asmTransition_cases k v s with
    ⟨_, _, h⟩ | ⟨_, _, h⟩ | ⟨_, _, _, h⟩ | ⟨_, _, _, h⟩ | ⟨_, _, _, h⟩ | ⟨_, _, h⟩
  all_goals simp [h]

/-! What a store leaves unchanged (R83). -/

theorem storeReg_cfg {s t : State} {r : Reg} {v : Word} (h : storeReg s r v = some t) : t.cfg = s.cfg := by
  rcases storeReg_cases h with ⟨_, rfl⟩ | ⟨_, rfl⟩ | ⟨_, rfl⟩ | ⟨_, rfl⟩ | ⟨_, _, rfl⟩ | ⟨_, _, rfl⟩
  all_goals simp

theorem storeReg_asm {s t : State} {r : Reg} {v : Word} (h : storeReg s r v = some t) : t.asm = s.asm := by
  rcases storeReg_cases h with ⟨_, rfl⟩ | ⟨_, rfl⟩ | ⟨_, rfl⟩ | ⟨_, rfl⟩ | ⟨_, _, rfl⟩ | ⟨_, _, rfl⟩
  all_goals simp

/-- A register marked R has no write (R46). -/
theorem storeReg_of_not_writable {r : Reg} (h : regWritable r = false) (s : State) (v : Word) :
    storeReg s r v = none := by
  cases hst : storeReg s r v with
  | none => rfl
  | some t =>
    rcases storeReg_cases hst with ⟨rfl, _⟩ | ⟨rfl, _⟩ | ⟨rfl, _⟩ | ⟨rfl, _⟩ | ⟨_, rfl, _⟩ | ⟨_, rfl, _⟩
    all_goals cases h

/-! A host write, as the step performs it. -/

/-- The step of a well-formed instance whose host writes next (R30, R80). -/
theorem step_memWrite {s : State} {addr width : Nat} {v : Word} {rest : List HostAction} (hc : configWf s.cfg = true)
    (hh : s.host = .memWrite addr width v :: rest) : step s = busWrite addr width v (s.takeAccess rest) := by
  simp [step, instanceStep, hostStep, hc, hh]

/-- An aligned 32-bit write to a register marked R is stuck (R82). -/
theorem busWrite_of_not_writable {s : State} {addr : Nat} {r : Reg} (ha : addr % 4 = 0)
    (hr : regAt s.cfg addr = some r) (hw : regWritable r = false) (v : Word) :
    busWrite addr 4 v s = .fault .writeToReadOnly := by
  have hcheck : checkAccess s.cfg addr 4 = .ok r := checkAccess_ok.mpr ⟨rfl, ha, hr⟩
  -- the arm for a store is the one after CMD's: `simp` takes `hcmd` from the context
  have hcmd : r ≠ .cmd := by rintro rfl; cases hw
  simp [busWrite, hcheck, storeReg_of_not_writable hw]

/-- RES is at address 0x00C (R46). -/
theorem regAt_res (c : Config) : regAt c 0x00C = some .res := by
  simp [regAt, regInWindow, fixedRegs, regAddr, regMapped]

/-! What a command leaves unchanged (R113). -/

/-- No command changes the instance. -/
theorem exec_cfg {i : Instr} {s t : State} (h : exec i s = .next t) : t.cfg = s.cfg := by
  rcases exec_cases h with ⟨_, _, _, _, _, rfl⟩ | ⟨_, _, rfl⟩ | ⟨_, _, rfl⟩ | ⟨_, _, _, rfl⟩ | ⟨_, _, rfl⟩ |
    ⟨_, _, _, rfl⟩ | ⟨_, _, _, rfl⟩ | ⟨_, _, _, rfl⟩ | ⟨_, _, _, rfl⟩ | ⟨_, _, _, rfl⟩ | ⟨_, rfl⟩
  all_goals simp

/-- Only the assembler's own commands move it (R37). -/
theorem exec_asm {i : Instr} {s t : State} (h : exec i s = .next t) :
    t.asm = s.asm ∨ i = .asmReset ∨ ∃ code, i = .asmFeed code := by
  rcases exec_cases h with ⟨_, _, _, _, _, rfl⟩ | ⟨_, _, rfl⟩ | ⟨_, _, rfl⟩ | ⟨_, _, _, rfl⟩ | ⟨_, _, rfl⟩ |
    ⟨_, _, _, rfl⟩ | ⟨_, _, _, rfl⟩ | ⟨_, _, _, rfl⟩ | ⟨_, _, _, rfl⟩ | ⟨_, rfl, _, _⟩ | ⟨rfl, _⟩
  all_goals simp

/-- A command keeps RES, or completes without error and is one whose rule writes RES (R34, R113). -/
theorem exec_res {i : Instr} {s t : State} (h : exec i s = .next t) :
    t.res = s.res ∨ (t.err = .ok ∧ commandWrites i .res = true) := by
  rcases exec_cases h with ⟨_, _, _, _, _, rfl⟩ | ⟨_, rfl, rfl⟩ | ⟨_, rfl | rfl, rfl⟩ | ⟨_, _, _, rfl⟩ |
    ⟨_, rfl, rfl⟩ | ⟨_, _, rfl, rfl⟩ | ⟨_, _, _, rfl⟩ | ⟨_, rfl, _, rfl⟩ | ⟨_, rfl, _, rfl⟩ | ⟨_, _, _, rfl⟩ | ⟨_, rfl⟩
  all_goals simp [commandWrites]

/-! What a step leaves unchanged. -/

theorem runCommand_cfg {w : Word} {s t : State} (h : runCommand w s = .next t) : t.cfg = s.cfg := by
  rcases runCommand_cases h with ⟨i, _, hx⟩ | ⟨_, _, rfl⟩
  · exact (exec_cfg hx).trans (s.storeCmd_cfg w)
  · rfl

/-- A command word keeps the assembler state, or is that of a command of the assembler (R37). -/
theorem runCommand_asm {w : Word} {s t : State} (h : runCommand w s = .next t) :
    t.asm = s.asm ∨ ∃ i, decode w = .ok i ∧ (i = .asmReset ∨ ∃ code, i = .asmFeed code) := by
  rcases runCommand_cases h with ⟨i, hi, hx⟩ | ⟨_, _, rfl⟩
  · exact (exec_asm hx).imp id fun hasm => ⟨i, hi, hasm⟩
  · exact .inl rfl

/-- No step changes the instance (R44, R45). -/
theorem step_cfg {s t : State} (h : step s = .next t) : t.cfg = s.cfg := by
  obtain ⟨_, hcase⟩ := step_cases h
  rcases hcase with ⟨_, rfl⟩ | ⟨_, _, _, _, _, _, rfl⟩ | ⟨_, _, _, _, _, _, _, _, hst⟩ | ⟨_, _, _, _, _, _, hrun⟩ |
    ⟨_, _, rfl⟩
  · rfl
  · rfl
  · exact (storeReg_cfg hst).trans (s.takeAccess_cfg _)
  · exact (runCommand_cfg hrun).trans (s.takeAccess_cfg _)
  · rfl

/-- A step keeps the assembler state, takes the reset input, or runs a command of the assembler (R37). -/
theorem step_asm {s t : State} (h : step s = .next t) :
    t.asm = s.asm ∨ ∃ rest, s.host = .reset :: rest ∨
      ∃ w i, s.host = .memWrite 0x000 4 w :: rest ∧ decode w = .ok i ∧
        (i = .asmReset ∨ ∃ code, i = .asmFeed code) := by
  obtain ⟨_, hcase⟩ := step_cases h
  rcases hcase with ⟨_, rfl⟩ | ⟨_, _, _, _, _, _, rfl⟩ | ⟨_, _, _, _, _, _, _, _, hst⟩ |
    ⟨addr, w, rest, hh, _, hcmd, hrun⟩ | ⟨rest, hh, _⟩
  · exact .inl rfl
  · exact .inl rfl
  · exact .inl ((storeReg_asm hst).trans (s.takeAccess_asm _))
  · obtain rfl := regAt_cmd hcmd
    exact (runCommand_asm hrun).imp id fun ⟨i, hi, hasm⟩ => ⟨rest, .inr ⟨w, i, hh, hi, hasm⟩⟩
  · exact .inr ⟨rest, .inl hh⟩

/-! What the flag and option registers read as. -/

/-- STATUS.ASM is 1 exactly inside a message (R35, R37). -/
theorem statusWord_asm (s : State) : (statusWord s).getLsbD 8 = decide (s.asm = .inMessage) := by
  rw [statusWord, BitVec.getLsbD_append, BitVec.getLsbD_append, BitVec.getLsbD_append]
  cases s.asm <;> simp [asmBit]

/-- P_OPTIONS is the sum of its two option bits (R45). -/
theorem optionsWord_toNat (c : Config) :
    (optionsWord c).toNat =
      (if c.packetRestart = .restart then 1 else 0) + (if c.bcd2decInvalid = .arith then 2 else 0) := by
  cases hp : c.packetRestart <;> cases hb : c.bcd2decInvalid <;> simp [optionsWord, hp, hb]

/-! The statements. -/

/-- Settles O12: over all commands by `exec_res`; the host's write to 0x00C meets a register marked R. -/
theorem resultWrittenOnlyOnSuccess : Obligations.ResultWrittenOnlyOnSuccess := by
  refine ⟨fun i s t h hne => (exec_res h).resolve_left hne, fun s v rest hc hh => ?_, fun _ _ => rfl⟩
  rw [step_memWrite hc hh]
  exact busWrite_of_not_writable rfl (regAt_res _) rfl v

/-- Settles O13, by what a step can do to the assembler state (`step_asm`). -/
theorem onlyAssemblerCommandsMoveTheAssembler : Obligations.OnlyAssemblerCommandsMoveTheAssembler :=
  ⟨fun _ _ h hne => (step_asm h).resolve_left hne, fun _ _ => rfl, statusWord_asm⟩

/-- Settles O15: the registers read the instance, which no step changes (`step_cfg`). -/
theorem parameterRegistersAreConstant : Obligations.ParameterRegistersAreConstant :=
  ⟨fun s => ⟨rfl, rfl, rfl, optionsWord_toNat s.cfg⟩, fun _ _ => step_cfg⟩

end Sys2Proof.Machine

/-! ## Which host accesses have a step, and the statement of 20_memory.md about the refused ones (R82) -/

namespace Sys2Proof.Machine

/-! A command always completes (R334), so a write to CMD does. -/

/-- The KIND check completes whenever the meaning it guards does. -/
theorem withKind_completes {meaning : Kind → Result} (hm : ∀ k, ∃ t, meaning k = .next t) (code : BitVec 3)
    (s : State) : ∃ t, withKind code s meaning = .next t := by
  unfold withKind
  split
  · exact ⟨_, rfl⟩
  · next k _ => exact hm k

theorem finishConversion_completes (s : State) (r : Option Nat) : ∃ t, finishConversion s r = .next t := by
  cases r <;> exact ⟨_, rfl⟩

theorem execDecField_completes (s : State) : ∃ t, execDecField s = .next t := by
  unfold execDecField
  split <;> exact ⟨_, rfl⟩

/-- No command ends in a fault or a refusal (R334). -/
theorem exec_completes (i : Instr) (s : State) : ∃ t, exec i s = .next t := by
  cases i with
  | classify | ckStart | ckAcc | ckFinal | ckValid | asmReset => exact ⟨_, rfl⟩
  | dec2bcd | bcd2dec => exact finishConversion_completes s _
  | decField => exact execDecField_completes s
  | encField code | encFeed code | asmFeed code =>
    refine withKind_completes (fun k => ?_) code s
    split <;> exact ⟨_, rfl⟩

theorem runCommand_completes (w : Word) (s : State) : ∃ t, runCommand w s = .next t := by
  unfold runCommand
  split
  · exact exec_completes _ _
  · exact ⟨_, rfl⟩

/-! A store completes exactly on the registers marked RW, CMD excepted (R46, R83). -/

theorem storeReg_completes_iff {s : State} {r : Reg} {v : Word} :
    (∃ t, storeReg s r v = some t) ↔ regWritable r = true ∧ r ≠ .cmd := by
  cases r <;> simp [storeReg, regWritable]

/-! The register map, read from the address and from the register (R46). -/

/-- The register found in a window has the address it was found at. -/
theorem regAddr_of_regInWindow {a : Nat} {r : Reg} (h : regInWindow a = some r) : regAddr r = a := by
  unfold regInWindow at h
  split at h
  · simpa using List.find?_some h
  · simp only [pulseReg, entryReg] at h
    split_ifs at h <;> cases h
    all_goals simp only [regAddr, rxMarkAddr, rxSpaceAddr]; omega

theorem pulseReg_mark {mark space : Nat → Reg} {d : Nat} (i : Nat) (hd : d = 8 * i) :
    pulseReg mark space d = some (mark i) := by
  simp [pulseReg, hd]

theorem pulseReg_space {mark space : Nat → Reg} {d : Nat} (i : Nat) (hd : d = 8 * i + 4) :
    pulseReg mark space d = some (space i) := by
  have hmod : d % 8 = 4 := by omega
  have hdiv : d / 8 = i := by omega
  simp [pulseReg, hmod, hdiv]

theorem entryReg_entry {entry : Nat → Reg} {d : Nat} (i : Nat) (hd : d = 4 * i) :
    entryReg entry d = some (entry i) := by
  simp [entryReg, hd]

/-- On a well-formed instance each region stays in its window, so a mapped register is found at its address. -/
theorem regInWindow_regAddr {c : Config} (hc : configWf c = true) {r : Reg} (hr : regMapped c r = true) :
    regInWindow (regAddr r) = some r := by
  obtain ⟨_, _, hcap, _, hdata⟩ := of_decide_eq_true hc
  cases r with
  | txMark i | txSpace i =>
    have hi : i < 13 := of_decide_eq_true hr
    simp (disch := omega) only [regAddr, regInWindow, if_neg, if_pos, pulseReg_mark i, pulseReg_space i]
  | msgout i =>
    have hi : i ≤ c.maxData + 1 := of_decide_eq_true hr
    simp (disch := omega) only [regAddr, regInWindow, if_neg, if_pos, entryReg_entry i]
  | cur i =>
    have hi : i ≤ c.maxData := of_decide_eq_true hr
    simp (disch := omega) only [regAddr, regInWindow, if_neg, if_pos, entryReg_entry i]
  | rxMark i | rxSpace i =>
    have hi : i < c.rxCap := of_decide_eq_true hr
    simp (disch := omega) only [regAddr, rxMarkAddr, rxSpaceAddr, regInWindow, if_neg, if_pos, pulseReg_mark i,
      pulseReg_space i]
  | _ => rfl

/-- The register an address reaches is the mapped one that has this address (R46). -/
theorem regAt_iff {c : Config} (hc : configWf c = true) {a : Nat} {r : Reg} :
    regAt c a = some r ↔ regAddr r = a ∧ regMapped c r = true := by
  rw [regAt, Option.filter_eq_some_iff]
  refine and_congr_left fun hr => ⟨regAddr_of_regInWindow, ?_⟩
  rintro rfl
  exact regInWindow_regAddr hc hr

/-! What the bus answers: a next state or a fault, and a next state exactly for the accesses R82 does not refuse. -/

/-- The step of a well-formed instance whose host reads next (R30, R80). -/
theorem step_memRead {s : State} {addr width : Nat} {rest : List HostAction} (hc : configWf s.cfg = true)
    (hh : s.host = .memRead addr width :: rest) : step s = busRead addr width (s.takeAccess rest) := by
  simp [step, instanceStep, hostStep, hc, hh]

theorem busRead_next_or_fault (addr width : Nat) (s : State) :
    (∃ t, busRead addr width s = .next t) ∨ ∃ f, busRead addr width s = .fault f := by
  unfold busRead
  split
  · exact .inr ⟨_, rfl⟩
  · exact .inl ⟨_, rfl⟩

theorem busWrite_next_or_fault (addr width : Nat) (v : Word) (s : State) :
    (∃ t, busWrite addr width v s = .next t) ∨ ∃ f, busWrite addr width v s = .fault f := by
  unfold busWrite
  split
  · exact .inr ⟨_, rfl⟩
  · exact .inl (runCommand_completes v s)
  · split
    · exact .inr ⟨_, rfl⟩
    · exact .inl ⟨_, rfl⟩

/-- A read completes exactly when it is 32 bits wide, aligned and of a mapped address (R82). -/
theorem busRead_completes_iff {addr width : Nat} {s : State} :
    (∃ t, busRead addr width s = .next t) ↔ width = 4 ∧ addr % 4 = 0 ∧ ∃ r, regAt s.cfg addr = some r := by
  constructor
  · rintro ⟨t, h⟩
    obtain ⟨r, hw, ha, hr, _⟩ := busRead_cases h
    exact ⟨hw, ha, r, hr⟩
  · rintro ⟨hw, ha, r, hr⟩
    simp [busRead, checkAccess_ok.mpr ⟨hw, ha, hr⟩]

/-- A write completes exactly when it is 32 bits wide, aligned and of a register marked RW (R82). -/
theorem busWrite_completes_iff {addr width : Nat} {v : Word} {s : State} :
    (∃ t, busWrite addr width v s = .next t) ↔
      width = 4 ∧ addr % 4 = 0 ∧ ∃ r, regAt s.cfg addr = some r ∧ regWritable r = true := by
  constructor
  · rintro ⟨t, h⟩
    obtain ⟨hw, ha, ⟨hcmd, _⟩ | ⟨r, _, hr, hst⟩⟩ := busWrite_cases h
    · exact ⟨hw, ha, .cmd, hcmd, rfl⟩
    · exact ⟨hw, ha, r, hr, (storeReg_completes_iff.mp ⟨t, hst⟩).1⟩
  · rintro ⟨hw, ha, r, hr, hwr⟩
    have hcheck := checkAccess_ok.mpr ⟨hw, ha, hr⟩
    by_cases hcmd : r = .cmd
    · subst hcmd
      simpa [busWrite, hcheck] using runCommand_completes v s
    · obtain ⟨t, ht⟩ := (storeReg_completes_iff (s := s) (v := v)).mpr ⟨hwr, hcmd⟩
      exact ⟨t, by simp [busWrite, hcheck, ht]⟩

/-- Settles O25: the bus answers a next state or a fault, and a next state exactly for the accesses R82 admits, in terms
of the register map by `regAt_iff`. -/
theorem refusedAccessesAreStuck : Obligations.RefusedAccessesAreStuck := by
  refine ⟨fun s addr width rest hc hh => ?_, fun s addr width v rest hc hh => ?_⟩
  · have hiff := busRead_completes_iff (addr := addr) (width := width) (s := s.takeAccess rest)
    simp only [State.takeAccess_cfg, regAt_iff hc] at hiff
    rw [step_memRead hc hh, ← hiff]
    exact ⟨id, (busRead_next_or_fault addr width _).resolve_left⟩
  · have hiff := busWrite_completes_iff (addr := addr) (width := width) (v := v) (s := s.takeAccess rest)
    simp only [State.takeAccess_cfg, regAt_iff hc, and_assoc] at hiff
    rw [step_memWrite hc hh, ← hiff]
    exact ⟨id, (busWrite_next_or_fault addr width v _).resolve_left⟩

end Sys2Proof.Machine

/-! ## Command words: the decoder and the encoder agree, in the numbers of 30_encoding.md (R110, R111, R113) -/

namespace Sys2Proof

/-! The fields of a word, as numbers (R111). -/

theorem opField_toNat (w : Word) : (opField w).toNat = w.toNat % 256 := by simp [opField]

theorem kindField_toNat (w : Word) : (kindField w).toNat = w.toNat / 256 % 8 := by
  simp [kindField, Nat.shiftRight_eq_div_pow]

theorem ckselField_toNat (w : Word) : (ckselField w).toNat = w.toNat / 2048 % 2 := by
  simp [ckselField, Nat.shiftRight_eq_div_pow]

theorem reservedField_toNat (w : Word) : (reservedField w).toNat = w.toNat / 4096 := by
  have hlt := w.isLt
  simp [reservedField, Nat.shiftRight_eq_div_pow]
  omega

/-! The opcode map (R113). -/

/-- The opcode map gives a byte the opcode that has it: 256 bytes, one by one. -/
theorem Op.byte_of_mem_ofByte : ∀ b : BitVec 8, ∀ o ∈ Op.ofByte b, o.byte = b := by decide

theorem Op.usesKind_iff {o : Op} : o.usesKind = true ↔ o.byte.toNat ∈ [0x20, 0x21, 0x30] := by cases o <;> decide

theorem Op.usesCksel_iff {o : Op} : o.usesCksel = true ↔ o.byte.toNat ∈ [0x10, 0x11, 0x12, 0x13] := by
  cases o <;> decide

/-- The opcode bytes: those of the commands without operand bits, with KIND and with CKSEL. -/
theorem Op.exists_byte_iff {n : Nat} :
    (∃ o : Op, o.byte.toNat = n) ↔
      n ∈ [0x01, 0x02, 0x03, 0x22, 0x31] ∨ n ∈ [0x20, 0x21, 0x30] ∨ n ∈ [0x10, 0x11, 0x12, 0x13] := by
  constructor
  · rintro ⟨o, rfl⟩
    cases o <;> decide
  · simp only [List.mem_cons, List.not_mem_nil, or_false]
    rintro ((rfl | rfl | rfl | rfl | rfl) | (rfl | rfl | rfl) | (rfl | rfl | rfl | rfl))
    exacts [⟨.classify, rfl⟩, ⟨.dec2bcd, rfl⟩, ⟨.bcd2dec, rfl⟩, ⟨.decField, rfl⟩, ⟨.asmReset, rfl⟩, ⟨.encField, rfl⟩,
      ⟨.encFeed, rfl⟩, ⟨.asmFeed, rfl⟩, ⟨.ckStart, rfl⟩, ⟨.ckAcc, rfl⟩, ⟨.ckFinal, rfl⟩, ⟨.ckValid, rfl⟩]

/-! A command's operand bits (R111). -/

theorem Instr.kindBits_of_not_usesKind {i : Instr} (h : i.op.usesKind = false) : i.kindBits = 0 := by
  cases i with
  | encField | encFeed | asmFeed => cases h
  | _ => rfl

theorem Instr.ckselBits_of_not_usesCksel {i : Instr} (h : i.op.usesCksel = false) : i.ckselBits = 0 := by
  cases i with
  | ckStart | ckAcc | ckFinal | ckValid => cases h
  | _ => rfl

@[simp] theorem Op.build_op (o : Op) (kind : BitVec 3) (sel : CkSel) : (o.build kind sel).op = o := by cases o <;> rfl

theorem Op.build_kindBits {o : Op} {kind : BitVec 3} (h : o.usesKind = false → kind = 0) (sel : CkSel) :
    (o.build kind sel).kindBits = kind := by
  cases o with
  | encField | encFeed | asmFeed => rfl
  | _ => exact (h rfl).symm

theorem Op.build_ckselBits {o : Op} {sel : CkSel} (h : o.usesCksel = false → sel.bit = 0) (kind : BitVec 3) :
    (o.build kind sel).ckselBits = sel.bit := by
  cases o with
  | ckStart | ckAcc | ckFinal | ckValid => rfl
  | _ => exact (h rfl).symm

@[simp] theorem CkSel.bit_ofBit (b : BitVec 1) : (CkSel.ofBit b).bit = b := by revert b; decide

/-! The encoder and the decoder. -/

/-- "A command word is therefore `OP | KIND << 8 | CKSEL << 11`" (R113), as a sum. -/
theorem encode_toNat (i : Instr) :
    (encode i).toNat = i.op.byte.toNat + 256 * i.kindBits.toNat + 2048 * i.ckselBits.toNat := by
  cases i with
  | ckStart sel | ckAcc sel | ckFinal sel | ckValid sel => cases sel <;> rfl
  | encField kind | encFeed kind | asmFeed kind => revert kind; decide
  | _ => rfl

/-- A word is the encoding of the command its fields name when its other bits are 0. -/
theorem encode_build {w : Word} {o : Op} (ho : o.byte = opField w) (hr : reservedField w = 0)
    (hk : o.usesKind = false → kindField w = 0) (hc : o.usesCksel = false → ckselField w = 0) :
    encode (o.build (kindField w) (CkSel.ofBit (ckselField w))) = w := by
  have hr' : (reservedField w).toNat = 0 := by rw [hr]; rfl
  apply BitVec.eq_of_toNat_eq
  rw [encode_toNat, Op.build_op, Op.build_kindBits hk, Op.build_ckselBits (by simpa using hc), CkSel.bit_ofBit, ho]
  simp only [opField_toNat, kindField_toNat, ckselField_toNat, reservedField_toNat] at hr' ⊢
  omega

theorem decode_encode (i : Instr) : decode (encode i) = .ok i := by
  cases i with
  | ckStart sel | ckAcc sel | ckFinal sel | ckValid sel => cases sel <;> rfl
  | encField kind | encFeed kind | asmFeed kind => revert kind; decide
  | _ => rfl

/-- A command has one word, and a word one meaning. -/
theorem decode_eq_ok_iff {w : Word} {i : Instr} : decode w = .ok i ↔ encode i = w := by
  constructor
  · intro h
    unfold decode at h
    split at h
    · cases h
    · next o ho =>
      split_ifs at h with hr hk hc
      cases h
      exact encode_build (Op.byte_of_mem_ofByte _ o ho) (not_not.mp hr) (by simpa using hk) (by simpa using hc)
  · rintro rfl
    exact decode_encode i

/-! The fields of a command's word (R111). -/

theorem encode_op (i : Instr) : (encode i).toNat % 256 = i.op.byte.toNat := by
  rw [encode_toNat]; omega

theorem encode_kind (i : Instr) : (encode i).toNat / 256 % 8 = i.kindBits.toNat := by
  rw [encode_toNat]; omega

theorem encode_cksel (i : Instr) : (encode i).toNat / 2048 % 2 = i.ckselBits.toNat := by
  rw [encode_toNat]; omega

theorem encode_reserved (i : Instr) : (encode i).toNat / 4096 = 0 := by
  rw [encode_toNat]; omega

/-- The checks of R110 for ERR_OPCODE, in numbers: the words that encode a command are those that pass them all. -/
theorem exists_encode_iff {w : Word} :
    (∃ i, encode i = w) ↔
      (w.toNat % 256 ∈ [0x01, 0x02, 0x03, 0x22, 0x31] ∨ w.toNat % 256 ∈ [0x20, 0x21, 0x30] ∨
          w.toNat % 256 ∈ [0x10, 0x11, 0x12, 0x13]) ∧
        w.toNat / 4096 = 0 ∧
        (w.toNat % 256 ∉ [0x20, 0x21, 0x30] → w.toNat / 256 % 8 = 0) ∧
        (w.toNat % 256 ∉ [0x10, 0x11, 0x12, 0x13] → w.toNat / 2048 % 2 = 0) := by
  rw [← Op.exists_byte_iff]
  constructor
  · rintro ⟨i, rfl⟩
    rw [encode_op, encode_kind, encode_cksel, ← Op.usesKind_iff, ← Op.usesCksel_iff]
    refine ⟨⟨i.op, rfl⟩, encode_reserved i, fun h => ?_, fun h => ?_⟩
    · rw [Instr.kindBits_of_not_usesKind (by simpa using h)]; rfl
    · rw [Instr.ckselBits_of_not_usesCksel (by simpa using h)]; rfl
  · rintro ⟨⟨o, ho⟩, hr, hk, hc⟩
    rw [← ho, ← Op.usesKind_iff] at hk
    rw [← ho, ← Op.usesCksel_iff] at hc
    refine ⟨_, encode_build (o := o) ?_ ?_ (fun h => ?_) (fun h => ?_)⟩
    all_goals apply BitVec.eq_of_toNat_eq
    · rw [opField_toNat, ho]
    · rw [reservedField_toNat, hr]; rfl
    · rw [kindField_toNat, hk (by simp [h])]; rfl
    · rw [ckselField_toNat, hc (by simp [h])]; rfl

/-- The ERR_KIND check of R110, in numbers: the commands without legal fields are those that use KIND and
carry 6 or 7. -/
theorem wf_eq_false_iff (i : Instr) :
    i.wf = false ↔ (encode i).toNat % 256 ∈ [0x20, 0x21, 0x30] ∧ (encode i).toNat / 256 % 8 > 5 := by
  rw [encode_op, encode_kind, ← Op.usesKind_iff]
  cases i <;> simp [Instr.wf, kindCodeLegal, Instr.op, Op.usesKind, Instr.kindBits]

end Sys2Proof

namespace Sys2Proof.Machine

/-! The command cycle (R110). -/

/-- The start of a command stands before every rule: running one from a started state is no different. -/
theorem exec_startCommand (i : Instr) (s : State) : exec i s.startCommand = exec i s := by cases i <;> rfl

/-- A command with KIND 6 or 7 raises ERR_KIND (R110, R114). -/
theorem exec_of_not_wf {i : Instr} (h : i.wf = false) (s : State) : exec i s = .next (s.raise .kind) := by
  cases i with
  | encField code | encFeed code | asmFeed code =>
    exact withKind_reserved (by simpa [Instr.wf, kindCodeLegal] using h) s _
  | _ => cases h

/-- A command's word is stored in CMD and the command runs. -/
theorem runCommand_encode (i : Instr) (s : State) : runCommand (encode i) s = exec i (s.storeCmd (encode i)) := by
  simp [runCommand, decode_encode]

/-- Every other word is stored in CMD and raises ERR_OPCODE. -/
theorem runCommand_of_no_command {w : Word} (h : ¬ ∃ i, encode i = w) (s : State) :
    runCommand w s = .next ((s.storeCmd w).raise .opcode) := by
  unfold runCommand
  split
  · next i hi => exact absurd ⟨i, decode_eq_ok_iff.mp hi⟩ h
  · rfl

/-- A 32-bit write to address 0x000 runs the word (R43, R83). -/
theorem busWrite_zero (w : Word) (s : State) : busWrite 0x000 4 w s = runCommand w s := by
  simp [busWrite, checkAccess_ok.mpr ⟨rfl, rfl, regAt_zero s.cfg⟩]

/-- Settles O5: `exists_encode_iff` reads the ERR_OPCODE checks as the existence of a command with that word, and
`wf_eq_false_iff` the ERR_KIND check as the legality of that command's fields. -/
theorem commandCycleChecksInOrder : Obligations.CommandCycleChecksInOrder := by
  intro w s op kind cksel usesKind usesCksel badOpcode
  have hbad : badOpcode ↔ ¬ ∃ i, encode i = w := by
    simp only [exists_encode_iff, not_and_or, Classical.not_imp]
    rfl
  refine ⟨fun rest hc hh => ?_, fun hb => runCommand_of_no_command (hbad.mp hb) s, fun hb hk => ?_, fun hb hk => ?_⟩
  · rw [step_memWrite hc hh]
    exact busWrite_zero w _
  · obtain ⟨i, rfl⟩ := not_not.mp (hbad.not.mp hb)
    rw [runCommand_encode]
    exact exec_of_not_wf ((wf_eq_false_iff i).mpr hk) _
  · obtain ⟨i, rfl⟩ := not_not.mp (hbad.not.mp hb)
    have hwf : i.wf = true := by simpa using (wf_eq_false_iff i).not.mpr hk
    refine ⟨i, hwf, (encode_op i).symm, rfl, ?_⟩
    rw [runCommand_encode]
    exact (exec_startCommand i _).symm

end Sys2Proof.Machine

/-! ## Fields: legal values, and the train of a field (30_encoding.md R120 to R122) -/

namespace Sys2Proof.Machine

/-! The halves of a gap total (R230). -/

theorem gapMark_toNat (c : Config) (g : GapClass) : (gapMark c g).toNat = (gapTotal c g).toNat / 2 := by
  simp [gapMark]

theorem gapMark_add_gapSpace (c : Config) (g : GapClass) :
    (gapMark c g).toNat + (gapSpace c g).toNat = (gapTotal c g).toNat := by
  have hle : gapMark c g ≤ gapTotal c g := by rw [BitVec.le_def, gapMark_toNat]; omega
  rw [gapSpace, BitVec.toNat_sub_of_le hle]
  exact Nat.add_sub_cancel' hle

/-! The train of a field, pulse by pulse (R122). -/

/-- A train is its pre-sync, its header, its bits, its gap and, for a terminating kind, a sentinel. -/
theorem encodeField_eq_cons (c : Config) (k : Kind) (v : Nat) :
    encodeField c k v =
      ⟨c.tPsM, c.tPsS⟩ :: ⟨hdr c (kindFamily k), c.tHdrS⟩ :: (bitPulses c (kindWidth k) v ++
        ⟨gapMark c (kindGap k), gapSpace c (kindGap k)⟩ :: if kindTerminating k then [zeroPulse] else []) := by
  simp [encodeField]

/-- Pulse j of the bits carries bit w - 1 - j: the most significant bit comes first (R92). -/
theorem bitPulses_getElem? {w j : Nat} (h : j < w) (c : Config) (v : Nat) :
    (bitPulses c w v)[j]? = some ⟨if v / 2 ^ (w - 1 - j) % 2 = 1 then c.tB1 else c.tB0, c.tBs⟩ := by
  simp [bitPulses, bitPulse, h, Nat.testBit_eq_decide_div_mod_eq]

theorem encodeField_presync (c : Config) (k : Kind) (v : Nat) :
    (encodeField c k v)[0]? = some ⟨c.tPsM, c.tPsS⟩ := by
  rw [encodeField_eq_cons]; rfl

theorem encodeField_header (c : Config) (k : Kind) (v : Nat) :
    (encodeField c k v)[1]? = some ⟨hdr c (kindFamily k), c.tHdrS⟩ := by
  rw [encodeField_eq_cons]; rfl

theorem encodeField_bit {k : Kind} {j : Nat} (h : j < kindWidth k) (c : Config) (v : Nat) :
    (encodeField c k v)[2 + j]? =
      some ⟨if v / 2 ^ (kindWidth k - 1 - j) % 2 = 1 then c.tB1 else c.tB0, c.tBs⟩ := by
  rw [encodeField_eq_cons, Nat.add_comm, List.getElem?_cons_succ, List.getElem?_cons_succ,
    List.getElem?_append_left (by simpa using h), bitPulses_getElem? h]

theorem encodeField_gap (c : Config) (k : Kind) (v : Nat) :
    (encodeField c k v)[kindWidth k + 2]? = some ⟨gapMark c (kindGap k), gapSpace c (kindGap k)⟩ := by
  simp [encodeField_eq_cons]

theorem encodeField_sentinel {k : Kind} (h : kindTerminating k = true) (c : Config) (v : Nat) :
    (encodeField c k v)[kindWidth k + 3]? = some zeroPulse := by
  simp [encodeField_eq_cons, h]

/-- Settles O42, one lemma per pulse of the train; the gap's two durations are the halves of the total (R230). -/
theorem trainLayoutOfALegalField : Obligations.TrainLayoutOfALegalField := fun c k v _ =>
  ⟨encodeField_length c k v, encodeField_presync c k v, encodeField_header c k v,
    fun _ hj => encodeField_bit hj c v,
    ⟨_, _, encodeField_gap c k v, gapMark_toNat c _, gapMark_add_gapSpace c _⟩,
    fun ht => encodeField_sentinel ht c v⟩

/-! A field that is not legal (R121). -/

theorem execEncField_illegal {k : Kind} {s : State} (h : legal k s.arg0.toNat = false) :
    execEncField (kindCode k) s = .next (s.raise .value) := by
  simp [execEncField, h]

theorem execAsmFeed_illegal {k : Kind} {s : State} (h : legal k s.arg0.toNat = false) :
    execAsmFeed (kindCode k) s = .next (s.raise .value) := by
  simp [execAsmFeed, h]

/-- ENC_FEED checks the operand of every kind but CHECKSUM (R121, R281). -/
theorem encFeedTakes_eq_legal {k : Kind} (hk : k ≠ .checksum) (s : State) :
    encFeedTakes k s = legal k s.arg0.toNat := by
  cases k with
  | checksum => exact absurd rfl hk
  | _ => rfl

theorem execEncFeed_illegal {k : Kind} {s : State} (hk : k ≠ .checksum) (h : legal k s.arg0.toNat = false) :
    execEncFeed (kindCode k) s = .next (s.raise .value) := by
  simp [execEncFeed, encFeedTakes_eq_legal hk, h]

/-- Settles O10: the ranges are the columns of R120, and each command's check raises ERR_VALUE; ENC_FEED of a CHECKSUM
has none to fail, so it completes by computation. -/
theorem illegalFieldRaisesErrValue : Obligations.IllegalFieldRaisesErrValue := by
  refine ⟨fun v => ?_, fun k s h => ?_, fun s => ⟨_, rfl, rfl⟩⟩
  · simp [legal_iff, kindLow, kindHigh]
  · exact ⟨execEncField_illegal h, execAsmFeed_illegal h, fun hk => execEncFeed_illegal hk h⟩

end Sys2Proof.Machine

/-! ## The tolerance classifier (41_classifier.md R161) -/

namespace Sys2Proof.Machine

/-- A truth value as a result word, over the proposition it decides. -/
theorem boolWord_of_iff {b : Bool} {p : Prop} [Decidable p] (h : b = true ↔ p) :
    boolWord b = if p then 1 else 0 :=
  if_congr h rfl rfl

/-- Settles O29: the word is CLASSIFY's encoding, the command starts and sets RES alone, and the two bounds of
`classify_iff` decide the value. -/
theorem classifyComparesWithinTwentyPercent : Obligations.ClassifyComparesWithinTwentyPercent := by
  refine ⟨decode_eq_ok_iff.mpr rfl, fun s => ?_⟩
  calc
    exec .classify s = .next (s.startCommand.setRes (boolWord (classify s.arg0 s.arg1))) := rfl
    _ = _ := by rw [boolWord_of_iff classify_iff]; rfl

end Sys2Proof.Machine

/-! ## The BCD converter (42_bcd.md R180, R181) -/

namespace Sys2Proof.Machine

/-! DEC2BCD's conversion, on its three ranges (R180). -/

theorem decToBcd_one_hundred : decToBcd 100 = some 0xFF := rfl

/-- The tens digit goes to the high nibble; the units digit is below 16, so the `|||` of the two is their sum. -/
theorem decToBcd_of_le {n : Nat} (h : n ≤ 99) : decToBcd n = some (n / 10 * 16 + n % 10) := by
  have hpack : (n / 10) <<< 4 ||| n % 10 = n / 10 * 16 + n % 10 := by
    rw [← Nat.shiftLeft_add_eq_or_of_lt (by omega), Nat.shiftLeft_eq]
  have hne : n ≠ 100 := by omega
  rw [decToBcd, if_neg hne, if_pos h, hpack]

theorem decToBcd_of_gt {n : Nat} (h : 100 < n) : decToBcd n = none := by
  have hne : n ≠ 100 := by omega
  have hgt : ¬ n ≤ 99 := by omega
  rw [decToBcd, if_neg hne, if_neg hgt]

/-! BCD2DEC's conversion: a byte below 0xFF by its nibbles, and the two ends above (R181). -/

theorem bcdToDec_of_gt {b : Nat} (h : 0xFF < b) (invalid : Bcd2decInvalid) : bcdToDec invalid b = none := if_pos h

theorem bcdToDec_sentinel (invalid : Bcd2decInvalid) : bcdToDec invalid 0xFF = some 0xFF := rfl

/-- Below 0xFF only BCD2DEC_INVALID = REJECT on a nibble above 9 keeps the arithmetic value back. -/
theorem bcdToDec_of_lt {b : Nat} (h : b < 0xFF) (invalid : Bcd2decInvalid) :
    bcdToDec invalid b =
      if (9 < b / 16 ∨ 9 < b % 16) ∧ invalid = .reject then none else some (b / 16 * 10 + b % 16) := by
  have hle : ¬ b > 0xFF := by omega
  rw [bcdToDec, if_neg hle, if_neg h.ne, Nat.shiftRight_eq_div_pow]
  by_cases hd : 9 < b / 16 ∨ 9 < b % 16
  · cases invalid <;> simp [hd]
  · simp [hd]

/-! The two ends of a conversion, as whole states. -/

theorem finishConversion_some (s : State) (r : Nat) :
    finishConversion s (some r) = .next { s with err := .ok, emit := false, res := BitVec.ofNat 32 r } := rfl

theorem finishConversion_none (s : State) :
    finishConversion s none = .next { s with err := .domain, emit := false } := rfl

theorem exec_dec2bcd (s : State) : exec .dec2bcd s = finishConversion s (decToBcd s.arg0.toNat) := rfl

theorem exec_bcd2dec (s : State) :
    exec .bcd2dec s = finishConversion s (bcdToDec s.cfg.bcd2decInvalid s.arg0.toNat) := rfl

/-- Settles O32: the word is DEC2BCD's encoding, and each clause is the conversion on its range with its end. -/
theorem dec2bcdPacksTwoDigits : Obligations.Dec2bcdPacksTwoDigits := by
  refine ⟨decode_eq_ok_iff.mpr rfl, fun s => ⟨fun h => ?_, fun h => ?_, fun h => ?_⟩⟩
  · rw [exec_dec2bcd, h, decToBcd_one_hundred]
    exact finishConversion_some s 0xFF
  · rw [exec_dec2bcd, decToBcd_of_le h, finishConversion_some]
  · rw [exec_dec2bcd, decToBcd_of_gt h, finishConversion_none]

/-- Settles O33: the word is BCD2DEC's encoding; the two clauses below 0xFF are the branches of `bcdToDec_of_lt`. -/
theorem bcd2decUnpacksTwoDigits : Obligations.Bcd2decUnpacksTwoDigits := by
  refine ⟨decode_eq_ok_iff.mpr rfl, fun s => ⟨fun h => ?_, fun h => ?_, fun h hd hr => ?_, fun h hd => ?_⟩⟩
  · rw [exec_bcd2dec, bcdToDec_of_gt h, finishConversion_none]
  · rw [exec_bcd2dec, h, bcdToDec_sentinel]
    exact finishConversion_some s 0xFF
  · rw [exec_bcd2dec, bcdToDec_of_lt h, if_pos ⟨hd, hr⟩, finishConversion_none]
  · have hkept : ¬ ((9 < s.arg0.toNat / 16 ∨ 9 < s.arg0.toNat % 16) ∧ s.cfg.bcd2decInvalid = .reject) := by
      rintro ⟨hbig, hr⟩
      rcases hd with hsmall | ha
      · omega
      · cases hr.symm.trans ha
    rw [exec_bcd2dec, bcdToDec_of_lt h, if_neg hkept, finishConversion_some]

end Sys2Proof.Machine

/-! ## The checksum accumulator (43_checksum.md R201 to R204) -/

namespace Sys2Proof.Machine

/-! The accumulator operations as words (R200). -/

theorem ckAcc_eq_ofNat (a d : Word) : ckAcc a d = BitVec.ofNat 32 ((a.toNat + d.toNat) % 2 ^ 32) := by
  apply BitVec.eq_of_toNat_eq
  simp [ckAcc]

theorem ckReduced_eq_ofNat (a : Word) : ckReduced a = BitVec.ofNat 32 (a.toNat % 256) := by
  rw [← ckReduced_toNat, BitVec.ofNat_toNat, BitVec.setWidth_eq]

theorem ckResult_eq_ofNat (a : Word) : ckResult a = BitVec.ofNat 32 (a.toNat % 256 + 256) := by
  rw [← ckResult_toNat, BitVec.ofNat_toNat, BitVec.setWidth_eq]

/-! What each command does to the accumulator CKSEL names. -/

theorem exec_ckStart (sel : CkSel) (s : State) :
    exec (.ckStart sel) s = .next (s.startCommand.setCk sel s.arg0) := rfl

theorem exec_ckAcc (sel : CkSel) (s : State) :
    exec (.ckAcc sel) s =
      .next (s.startCommand.setCk sel (BitVec.ofNat 32 (((s.ck sel).toNat + s.arg0.toNat) % 2 ^ 32))) := by
  rw [← ckAcc_eq_ofNat]; rfl

theorem exec_ckFinal (sel : CkSel) (s : State) :
    exec (.ckFinal sel) s =
      .next ((s.startCommand.setCk sel (BitVec.ofNat 32 ((s.ck sel).toNat % 256))).setRes
        (BitVec.ofNat 32 ((s.ck sel).toNat % 256 + 256))) := by
  rw [← ckReduced_eq_ofNat, ← ckResult_eq_ofNat]; rfl

theorem exec_ckValid (sel : CkSel) (s : State) :
    exec (.ckValid sel) s =
      .next (s.startCommand.setRes
        (if s.arg0.toNat / 512 = 0 ∧ s.arg0.toNat % 256 = (s.ck sel).toNat % 256 then 1 else 0)) := by
  rw [← boolWord_of_iff ckValid_iff]; rfl

/-- Settles O38: the words are CK_VALID's encodings, and `exec_ckValid` gives the state on either accumulator. -/
theorem ckValidComparesWithTheTotal : Obligations.CkValidComparesWithTheTotal :=
  ⟨decode_eq_ok_iff.mpr rfl, decode_eq_ok_iff.mpr rfl, fun s => ⟨exec_ckValid .tx s, exec_ckValid .rx s⟩⟩

/-- Settles O35: the words are CK_START's encodings, and `exec_ckStart` gives the state on either accumulator. -/
theorem ckStartSetsTheTotal : Obligations.CkStartSetsTheTotal :=
  ⟨decode_eq_ok_iff.mpr rfl, decode_eq_ok_iff.mpr rfl, fun s => ⟨exec_ckStart .tx s, exec_ckStart .rx s⟩⟩

/-- Settles O36: the words are CK_ACC's encodings, and `exec_ckAcc` gives the state on either accumulator. -/
theorem ckAccAddsToTheTotal : Obligations.CkAccAddsToTheTotal :=
  ⟨decode_eq_ok_iff.mpr rfl, decode_eq_ok_iff.mpr rfl, fun s => ⟨exec_ckAcc .tx s, exec_ckAcc .rx s⟩⟩

/-- Settles O37: the words are CK_FINAL's encodings, and `exec_ckFinal` gives the state on either accumulator. -/
theorem ckFinalReducesTheTotal : Obligations.CkFinalReducesTheTotal :=
  ⟨decode_eq_ok_iff.mpr rfl, decode_eq_ok_iff.mpr rfl, fun s => ⟨exec_ckFinal .tx s, exec_ckFinal .rx s⟩⟩

end Sys2Proof.Machine

/-! ## The pulse codec: ENC_FIELD, DEC_FIELD and what a decode reads (44_pulse_codec.md R230, R245, R254, R260) -/

namespace Sys2Proof.Machine

/-- Settles O41, from the two halves of the total. -/
theorem gapHalvesSplitTheTotal : Obligations.GapHalvesSplitTheTotal := by
  intro c g
  have hmark := gapMark_toNat c g
  have hsum := gapMark_add_gapSpace c g
  exact ⟨hmark, hsum, by omega⟩

/-! ENC_FIELD (R245): `execEncField_illegal` says the other end. -/

theorem execEncField_legal {k : Kind} {s : State} (h : legal k s.arg0.toNat = true) :
    execEncField (kindCode k) s = .next (s.startCommand.loadTrain (encodeField s.cfg k s.arg0.toNat)) := by
  simp [execEncField, h]

theorem encode_encField_kindCode (k : Kind) :
    encode (.encField (kindCode k)) = BitVec.ofNat 32 (0x20 + 256 * (kindCode k).toNat) := by
  cases k <;> rfl

/-- Settles O43: the words are ENC_FIELD's encodings, and each clause is one end of the command. -/
theorem encFieldWritesTheTrain : Obligations.EncFieldWritesTheTrain := fun k s =>
  ⟨decode_eq_ok_iff.mpr (encode_encField_kindCode k), execEncField_legal, execEncField_illegal,
    fun _ hcode => withKind_reserved hcode s _⟩

/-! DEC_FIELD (R260). -/

theorem execDecField_ok {s : State} {d : Decoded} (h : decodeField s.cfg s.rxbuf s.rxlen s.rxptr = .ok d) :
    execDecField s = .next ((s.startCommand.setRes (fieldWord d.kind d.value)).advanceRxptr d.next) := by
  simp [execDecField, h]

theorem execDecField_error {s : State} {code : ErrCode}
    (h : decodeField s.cfg s.rxbuf s.rxlen s.rxptr = .error code) : execDecField s = .next (s.raise code) := by
  simp [execDecField, h]

/-- A decoded value has at most nine bits, and the decode ends at RXLEN at the latest (R252). -/
theorem decodeField_bounds {c : Config} {rx : List Pulse} {rxlen start : Nat} {d : Decoded}
    (h : decodeField c rx rxlen start = .ok d) : d.value < 512 ∧ d.next ≤ rxlen := by
  obtain ⟨_, _, qs, _, r, hstart, hpulses, _, _, hbits, _, _, hvalue, hnext⟩ := decodeField_ok h
  have hlen : start + 2 + qs.length ≤ rxlen := by
    have hread := congrArg List.length hpulses
    simp only [List.length_drop, List.length_take, List.length_cons] at hread
    omega
  obtain ⟨hcount, hlt, hle⟩ := decodeBits_bounds (by omega) (by omega) hlen hbits
  have hpow : 2 ^ r.count ≤ 2 ^ 9 := Nat.pow_le_pow_right (by omega) hcount
  omega

/-- Settles O45: the word is DEC_FIELD's encoding, each clause is one end of the command, and a decoded value is small
enough for the field word to be a sum (`fieldWord_eq`). -/
theorem decFieldWritesTheDecodedField : Obligations.DecFieldWritesTheDecodedField := by
  refine ⟨decode_eq_ok_iff.mpr rfl, fun s => ⟨fun d hd => ?_, fun code hcode => ⟨execDecField_error hcode, ?_⟩⟩⟩
  · obtain ⟨hvalue, hnext⟩ := decodeField_bounds hd
    refine ⟨?_, hvalue, hnext⟩
    rw [← fieldWord_eq hvalue]
    exact execDecField_ok hd
  · simpa using decodeField_error hcode

/-! The header pulse's space (R254). -/

/-- A change of pulse start + j of RXBUF is a change of pulse j of those a decode from `start` reads. -/
theorem validPulses_modify (rx : List Pulse) (rxlen start j : Nat) (f : Pulse → Pulse) :
    ((rx.modify (start + j) f).take rxlen).drop start = ((rx.take rxlen).drop start).modify j f := by
  rw [List.take_modify, List.drop_modify_of_ge f _ _ _ (Nat.le_add_right start j), Nat.add_sub_cancel_left]

/-- The header's mark alone decides the family (R254). -/
theorem headerFamily_withSpace (c : Config) (h : Pulse) (x : Word) :
    headerFamily c { h with space := x } = headerFamily c h := rfl

/-- Settles O49: pulse 1 of those the decode reads is its header, whose space does not reach the family. -/
theorem headerSpaceIsNotChecked : Obligations.HeaderSpaceIsNotChecked := by
  intro c rx rxlen start x
  unfold decodeField
  rw [validPulses_modify]
  cases (rx.take rxlen).drop start with
  | nil => rfl
  | cons p rest =>
    cases rest with
    | nil => rfl
    | cons h qs => simp only [List.modify_succ_cons, List.modify_zero_cons, headerFamily_withSpace]

end Sys2Proof.Machine

/-! ## The message-frame assembler: ENC_FEED, ASM_FEED and ASM_RESET (45_assembler.md R281, R290, R300) -/

namespace Sys2Proof.Machine

/-- Settles O56: the word is ASM_RESET's encoding, and the command is a start and a discard, whose fields the statement
writes out. -/
theorem asmResetDropsTheMessage : Obligations.AsmResetDropsTheMessage :=
  ⟨decode_eq_ok_iff.mpr rfl, fun _ => rfl⟩

/-! ENC_FEED (R281). -/

theorem encode_encFeed_kindCode (k : Kind) :
    encode (.encFeed (kindCode k)) = BitVec.ofNat 32 (0x21 + 256 * (kindCode k).toNat) := by
  cases k <;> rfl

/-- The finalized total, a CHECKSUM's value whatever ARG0 holds (R203, R281). -/
theorem encFeedValue_checksum (s : State) : encFeedValue .checksum s = s.ckTx.toNat % 256 + 256 :=
  ckResult_toNat s.ckTx

theorem encFeedTotal_checksum (s : State) : encFeedTotal .checksum s = BitVec.ofNat 32 (s.ckTx.toNat % 256) :=
  ckReduced_eq_ofNat s.ckTx

theorem encFeedTotal_data (s : State) :
    encFeedTotal .data s = BitVec.ofNat 32 ((s.ckTx.toNat + s.arg0.toNat) % 2 ^ 32) :=
  ckAcc_eq_ofNat s.ckTx s.arg0

/-- ENC_FEED encodes legal values only: a CHECKSUM's is computed to be legal, the others are checked (R121, R203). -/
theorem legal_encFeedValue {k : Kind} {s : State} (h : encFeedTakes k s = true) :
    legal k (encFeedValue k s) = true := by
  cases k with
  | checksum => exact ckResult_legal s.ckTx
  | _ => exact h

/-- ENC_FEED of an operand it takes: `execEncFeed_illegal` says the other end. -/
theorem execEncFeed_takes {k : Kind} {s : State} (h : encFeedTakes k s = true) :
    execEncFeed (kindCode k) s = .next
      (((s.startCommand.setCk .tx (encFeedTotal k s)).loadTrain (encodeField s.cfg k (encFeedValue k s))).setRes
        (BitVec.ofNat 32 ((kindCode k).toNat * 65536 + encFeedValue k s))) := by
  rw [← fieldWord_eq (legal_lt_512 (legal_encFeedValue h))]
  simp [execEncFeed, h]

/-- Settles O53: the words are ENC_FEED's encodings; a CHECKSUM is taken unchecked, and each other kind on the check of
its operand; `encFeedValue` and `encFeedTotal` give the field and the total of each kind. -/
theorem encFeedEncodesAndTracksTheChecksum : Obligations.EncFeedEncodesAndTracksTheChecksum := by
  intro s fed
  refine ⟨fun k => decode_eq_ok_iff.mpr (encode_encFeed_kindCode k), ?_, fun h => ?_, fun h => ?_, ?_,
    fun _ => execEncFeed_illegal, fun _ hcode => withKind_reserved hcode s _⟩
  · rw [← encFeedValue_checksum, ← encFeedTotal_checksum]
    exact execEncFeed_takes rfl
  · exact execEncFeed_takes h
  · rw [← encFeedTotal_data]
    exact execEncFeed_takes h
  · rintro k (rfl | rfl | rfl) h
    all_goals exact execEncFeed_takes h

/-! The rows of ASM_FEED's transition table (R290), from IDLE. -/

section FromIdle

variable {s : State} (hs : s.asm = .idle)
include hs

theorem asmTransition_idle_packet (v : Word) :
    asmTransition .packet v s = (s.setCk .rx v).setCur [mkField .packet v.toNat] := by
  simp [asmTransition, hs, ckStart]

theorem asmTransition_idle_data_or_checksum {k : Kind} (hk : k = .data ∨ k = .checksum) (v : Word) :
    asmTransition k v s = s.discard.report .seq := by
  rcases hk with rfl | rfl <;> simp [asmTransition, hs]

theorem asmTransition_idle_single {k : Kind} (hk : k = .tag ∨ k = .beacon ∨ k = .ltarBeacon) (v : Word) :
    asmTransition k v s = s.emitMessage [mkField k v.toNat] := by
  rcases hk with rfl | rfl | rfl <;> simp [asmTransition, hs]

end FromIdle

/-! The rows from IN_MESSAGE. -/

/-- On a legal CHECKSUM, whose bits from 9 up are 0, `ckValid` compares the low bytes alone (R204). -/
theorem ckValid_iff_of_legal {a c : Word} (h : legal .checksum c.toNat = true) :
    ckValid a c = true ↔ c.toNat % 256 = a.toNat % 256 := by
  have hlt := legal_lt_512 h
  rw [ckValid_iff]
  exact and_iff_right (by omega)

section FromInMessage

variable {s : State} (hs : s.asm = .inMessage)
include hs

/-- Inside a message an entry of CUR leaves the assembler state as it is. -/
theorem setCur_of_inMessage (m : List Field) : s.setCur m = { s with cur := m } := by
  rw [State.setCur, hs]

theorem asmTransition_inMessage_data (hcur : s.cur.length ≠ s.cfg.maxData + 1) (v : Word) :
    asmTransition .data v s =
      { s with
        ckRx := BitVec.ofNat 32 ((s.ckRx.toNat + v.toNat) % 2 ^ 32)
        cur := s.cur ++ [mkField .data v.toNat] } := by
  rw [← ckAcc_eq_ofNat]
  calc
    asmTransition .data v s = (s.setCk .rx (ckAcc s.ckRx v)).setCur (s.cur ++ [mkField .data v.toNat]) := by
      simp [asmTransition, hs, hcur]
    _ = _ := setCur_of_inMessage (s := s.setCk .rx (ckAcc s.ckRx v)) hs _

theorem asmTransition_inMessage_data_full (hcur : s.cur.length = s.cfg.maxData + 1) (v : Word) :
    asmTransition .data v s = s.discard.report .overflow := by
  simp [asmTransition, hs, hcur]

theorem asmTransition_inMessage_checksum {v : Word} (hv : legal .checksum v.toNat = true)
    (hck : v.toNat % 256 = s.ckRx.toNat % 256) :
    asmTransition .checksum v s = (s.emitMessage (s.cur ++ [mkField .checksum v.toNat])).finish := by
  simp [asmTransition, hs, (ckValid_iff_of_legal hv).mpr hck]

theorem asmTransition_inMessage_checksum_mismatch {v : Word} (hv : legal .checksum v.toNat = true)
    (hck : v.toNat % 256 ≠ s.ckRx.toNat % 256) :
    asmTransition .checksum v s = s.discard.report .cksum := by
  simp [asmTransition, hs, (ckValid_iff_of_legal hv).not.mpr hck]

theorem asmTransition_inMessage_packet_drop (hr : s.cfg.packetRestart = .drop) (v : Word) :
    asmTransition .packet v s = s.discard.report .seq := by
  simp [asmTransition, hs, hr]

theorem asmTransition_inMessage_packet_restart (hr : s.cfg.packetRestart = .restart) (v : Word) :
    asmTransition .packet v s = ((s.discard.setCk .rx v).setCur [mkField .packet v.toNat]).report .seq := by
  simp [asmTransition, hs, hr, ckStart]

theorem asmTransition_inMessage_single {k : Kind} (hk : k = .tag ∨ k = .beacon ∨ k = .ltarBeacon) (v : Word) :
    asmTransition k v s = s.discard.report .seq := by
  rcases hk with rfl | rfl | rfl <;> simp [asmTransition, hs]

end FromInMessage

/-! ASM_FEED (R290): `execAsmFeed_illegal` says the other end. -/

theorem encode_asmFeed_kindCode (k : Kind) :
    encode (.asmFeed (kindCode k)) = BitVec.ofNat 32 (0x30 + 256 * (kindCode k).toNat) := by
  cases k <;> rfl

/-- ASM_FEED of a legal field ends where the started command's transition does. -/
theorem execAsmFeed_legal {k : Kind} {s t : State} (h : legal k s.arg0.toNat = true)
    (ht : asmTransition k s.arg0 s.startCommand = t) : execAsmFeed (kindCode k) s = .next t := by
  simp [execAsmFeed, h, ht]

/-- Settles O55: the words are ASM_FEED's encodings, each row of the table is its lemma about `asmTransition`, and the
two raised errors are the checks before the transition. -/
theorem asmFeedFollowsTheTransitionTable : Obligations.AsmFeedFollowsTheTransitionTable := by
  intro s v discarded single
  refine ⟨fun k => decode_eq_ok_iff.mpr (encode_asmFeed_kindCode k), fun hs hl => ?_, fun k hs hk hl => ?_,
    fun k hs hk hl => ?_, fun hs hl hcur => ?_, fun hs hl hcur => ?_, fun hs hl hck => ?_, fun hs hl hck => ?_,
    fun hs hl hr => ?_, fun hs hl hr => ?_, fun k hs hk hl => ?_,
    fun _ => execAsmFeed_illegal, fun _ hcode => withKind_reserved hcode s _⟩
  · exact execAsmFeed_legal hl (asmTransition_idle_packet (s := s.startCommand) hs v)
  · exact execAsmFeed_legal hl (asmTransition_idle_data_or_checksum (s := s.startCommand) hs hk v)
  · exact execAsmFeed_legal hl (asmTransition_idle_single (s := s.startCommand) hs hk v)
  · exact execAsmFeed_legal hl (asmTransition_inMessage_data (s := s.startCommand) hs hcur v)
  · exact execAsmFeed_legal hl (asmTransition_inMessage_data_full (s := s.startCommand) hs hcur v)
  · exact execAsmFeed_legal hl (asmTransition_inMessage_checksum (s := s.startCommand) hs hl hck)
  · exact execAsmFeed_legal hl (asmTransition_inMessage_checksum_mismatch (s := s.startCommand) hs hl hck)
  · exact execAsmFeed_legal hl (asmTransition_inMessage_packet_drop (s := s.startCommand) hs hr v)
  · exact execAsmFeed_legal hl (asmTransition_inMessage_packet_restart (s := s.startCommand) hs hr v)
  · exact execAsmFeed_legal hl (asmTransition_inMessage_single (s := s.startCommand) hs hk v)

end Sys2Proof.Machine

/-! ## Raised and reported errors (60_exceptions.md R331, R332) -/

namespace Sys2Proof.Machine

/-- The three ends of a command: it raises a code that is not a reported one, completes without error, or is an ASM_FEED
that makes its transition (R330, R332). -/
theorem exec_error_cases {i : Instr} {s t : State} (h : exec i s = .next t) :
    (∃ e, e ≠ .seq ∧ e ≠ .cksum ∧ e ≠ .overflow ∧ t = s.raise e) ∨ t.err = .ok ∨
      ∃ k, i = .asmFeed (kindCode k) ∧ t = asmTransition k s.arg0 s.startCommand := by
  rcases exec_cases h with ⟨e, _, hseq, hcksum, hoverflow, ht⟩ | ⟨_, _, rfl⟩ | ⟨_, _, rfl⟩ | ⟨_, _, _, rfl⟩ |
    ⟨_, _, rfl⟩ | ⟨_, _, _, rfl⟩ | ⟨_, _, _, rfl⟩ | ⟨_, _, _, rfl⟩ | ⟨_, _, _, rfl⟩ | ⟨k, hi, _, ht⟩ | ⟨_, rfl⟩
  on_goal 1 => exact .inl ⟨e, hseq, hcksum, hoverflow, ht⟩
  on_goal 9 => exact .inr (.inr ⟨k, hi, ht⟩)
  all_goals exact .inr (.inl (by simp))

/-- A transition keeps STATUS.ERR or reports one of the three codes (R290, R332). -/
theorem asmTransition_err (k : Kind) (v : Word) (s : State) :
    (asmTransition k v s).err = s.err ∨ (asmTransition k v s).err = .seq ∨ (asmTransition k v s).err = .cksum ∨
      (asmTransition k v s).err = .overflow := by
  rcases asmTransition_cases k v s with
    ⟨_, he, h⟩ | ⟨_, _, h⟩ | ⟨_, _, _, h⟩ | ⟨_, _, _, h⟩ | ⟨_, _, _, h⟩ | ⟨_, _, h⟩
  · exact .inr (by simpa [h] using he)
  all_goals simp [h]

/-- A command that ends in an error that is not a reported one has changed STATUS and nothing else (R331). -/
theorem exec_eq_raise {i : Instr} {s t : State} (h : exec i s = .next t) (hok : t.err ≠ .ok) (hseq : t.err ≠ .seq)
    (hcksum : t.err ≠ .cksum) (hoverflow : t.err ≠ .overflow) : t = s.raise t.err := by
  rcases exec_error_cases h with ⟨_, _, _, _, rfl⟩ | herr | ⟨k, _, rfl⟩
  · rfl
  · exact absurd herr hok
  · rcases asmTransition_err k s.arg0 s.startCommand with herr | herr | herr | herr
    exacts [absurd herr hok, absurd herr hseq, absurd herr hcksum, absurd herr hoverflow]

/-- Settles O8: a command word is no command and raises ERR_OPCODE, or its command raises the error, by
`exec_eq_raise`. -/
theorem raisedErrorChangesOnlyCmdAndStatus : Obligations.RaisedErrorChangesOnlyCmdAndStatus := by
  intro w s t h hok hseq hcksum hoverflow
  rcases runCommand_cases h with ⟨i, _, hx⟩ | ⟨_, _, rfl⟩
  · exact exec_eq_raise hx hok hseq hcksum hoverflow
  · rfl

/-- A transition that changes STATUS.ERR discards the message, unless it restarts it (R290, C3). -/
theorem asmTransition_eq_discard {k : Kind} {v : Word} {s : State} (herr : (asmTransition k v s).err ≠ s.err)
    (hrestart : ¬ (s.cfg.packetRestart = .restart ∧ s.asm = .inMessage ∧ k = .packet)) :
    asmTransition k v s = s.discard.report (asmTransition k v s).err := by
  rcases asmTransition_cases k v s with
    ⟨_, _, h⟩ | ⟨_, _, h⟩ | ⟨hk, hs, hr, _⟩ | ⟨_, _, _, h⟩ | ⟨_, _, _, h⟩ | ⟨_, _, h⟩
  case inl => rw [h, State.report_err]
  case inr.inr.inl => exact absurd ⟨hr, hs, hk⟩ hrestart
  all_goals exact absurd (by simp [h]) herr

theorem kindCode_eq_zero_iff {k : Kind} : kindCode k = 0 ↔ k = .packet := by cases k <;> decide

/-- Settles O9: of the three ends of a command only a transition of the assembler leaves a reported code, and it restarts
the message (`asmTransition_inMessage_packet_restart`) or discards it (`asmTransition_eq_discard`). -/
theorem reportedErrorDiscardsTheMessage : Obligations.ReportedErrorDiscardsTheMessage := by
  intro i s t h herr
  rcases exec_error_cases h with ⟨e, hseq, hcksum, hoverflow, rfl⟩ | hok | ⟨k, rfl, rfl⟩
  · simp [hseq, hcksum, hoverflow] at herr
  · simp [hok] at herr
  · refine ⟨kindCode k, rfl, ?_⟩
    simp only [kindCode_eq_zero_iff]
    split_ifs with hrestart
    · obtain ⟨hr, hs, rfl⟩ := hrestart
      exact asmTransition_inMessage_packet_restart (s := s.startCommand) hs hr s.arg0
    · refine asmTransition_eq_discard (s := s.startCommand) (fun hok => ?_) hrestart
      simp [hok] at herr

end Sys2Proof.Machine

/-! ## The reset input (70_reset_and_hazards.md R370) -/

namespace Sys2Proof.Machine

/-- The step of a well-formed instance whose host gives the reset input next. -/
theorem step_reset {s : State} {rest : List HostAction} (hc : configWf s.cfg = true) (hh : s.host = .reset :: rest) :
    step s = .next (resetInput (s.takeReset rest)) := by
  simp [step, instanceStep, hostStep, hc, hh]

/-- RXBUF is drawn afresh, but with as many pulses as the instance has (R41, R370). -/
theorem resetInput_rxbuf_length (s : State) : (resetInput s).rxbuf.length = s.cfg.rxCap :=
  (Memory.wf_iff.mp (Memory.resetInput_wf s)).2

theorem pulseAt_resetInput_txbuf (s : State) (i : Nat) : pulseAt (resetInput s).txbuf i = zeroPulse :=
  List.getD_eq_getElem?_getD.trans (List.getElem?_getD_replicate_default_eq ..)

/-- No error, no emitted message and an idle assembler read as STATUS 0 (R35). -/
theorem statusWord_resetInput (s : State) : statusWord (resetInput s) = 0 := by
  simp [statusWord, asmBit, errCodeNumber]

/-- Each register of the map that holds one word of the block's own state reads 0 (R46, R370). -/
theorem readReg_resetInput_word (s : State) :
    ∀ r ∈ [Reg.cmd, .arg0, .arg1, .res, .status, .ckTx, .ckRx, .txlen, .rxlen, .rxptr, .msglen, .curlen],
      readReg (resetInput s) r = 0 := by
  simp [readReg, statusWord_resetInput, countWord]

/-- Each entry of TXBUF, MSGOUT and CUR reads 0: TXBUF holds zero pulses, and the two messages are empty. -/
theorem readReg_resetInput_entry (s : State) (i : Nat) :
    readReg (resetInput s) (.txMark i) = 0 ∧ readReg (resetInput s) (.txSpace i) = 0 ∧
      readReg (resetInput s) (.msgout i) = 0 ∧ readReg (resetInput s) (.cur i) = 0 :=
  ⟨congrArg Pulse.mark (pulseAt_resetInput_txbuf s i), congrArg Pulse.space (pulseAt_resetInput_txbuf s i), rfl, rfl⟩

/-- Fewer than two pulses from RXPTR on are no field, and DEC_FIELD reads none of them (R252, R260). -/
theorem execDecField_of_lt {s : State} (h : s.rxlen < s.rxptr + 2) : execDecField s = .next (s.raise .trunc) :=
  execDecField_error (if_pos h)

/-- Settles O17: the step is `resetInput` (`step_reset`), whose fields are the values of R370 by definition; RXLEN 0 is
too short a train for DEC_FIELD (`execDecField_of_lt`). -/
theorem resetPutsEveryRegisterInItsResetValue : Obligations.ResetPutsEveryRegisterInItsResetValue := by
  intro s rest hc hh
  have hshort : (resetInput (s.takeReset rest)).rxlen < (resetInput (s.takeReset rest)).rxptr + 2 := by simp
  exact ⟨_, step_reset hc hh, rfl, rfl, rfl, rfl, rfl, rfl, rfl, rfl, rfl, rfl, rfl, rfl,
    resetInput_rxbuf_length _, rfl, rfl, rfl, rfl, readReg_resetInput_word _, readReg_resetInput_entry _,
    execDecField_of_lt hshort⟩

end Sys2Proof.Machine

/-! ## The encoder and the decoder are inverse (30_encoding.md R110, R111, R113; 20_memory.md R81) -/

namespace Sys2Proof

/-- The four lanes of a word make it up again, whatever its bits (R81). -/
theorem wordOfLanes_lanes (w : Word) :
    wordOfLanes (w.extractLsb' 0 8) (w.extractLsb' 8 8) (w.extractLsb' 16 8) (w.extractLsb' 24 8) = w := by
  rw [wordOfLanes, BitVec.extractLsb'_append_extractLsb'_eq_extractLsb' (by rfl),
    BitVec.extractLsb'_append_extractLsb'_eq_extractLsb' (by rfl),
    BitVec.extractLsb'_append_extractLsb'_eq_extractLsb' (by rfl), BitVec.extractLsb'_eq_self]

theorem decodeBytes_lanesOfWord (w : Word) : decodeBytes (lanesOfWord w) = decode w :=
  congrArg decode (wordOfLanes_lanes w)

/-- Settles O1: `decode_encode`, and the lanes of the word decode as the word does. -/
theorem encodeThenDecodeGivesTheCommand : Obligations.EncodeThenDecodeGivesTheCommand := fun i =>
  ⟨decode_encode i, (decodeBytes_lanesOfWord _).trans (decode_encode i)⟩

/-- Settles O2, by `decode_eq_ok_iff`. -/
theorem decodedWordIsTheCommandsEncoding : Obligations.DecodedWordIsTheCommandsEncoding := fun _ _ =>
  decode_eq_ok_iff.mp

/-- The ERR_OPCODE checks by groups of opcodes: what each group leaves free of the bits above the opcode. -/
theorem opcode_checks_iff_groups (w : Word) :
    ((w.toNat % 256 ∈ [0x01, 0x02, 0x03, 0x22, 0x31] ∨ w.toNat % 256 ∈ [0x20, 0x21, 0x30] ∨
          w.toNat % 256 ∈ [0x10, 0x11, 0x12, 0x13]) ∧
        w.toNat / 4096 = 0 ∧
        (w.toNat % 256 ∉ [0x20, 0x21, 0x30] → w.toNat / 256 % 8 = 0) ∧
        (w.toNat % 256 ∉ [0x10, 0x11, 0x12, 0x13] → w.toNat / 2048 % 2 = 0)) ↔
      w.toNat / 4096 = 0 ∧
        ((w.toNat % 256 ∈ [0x01, 0x02, 0x03, 0x22, 0x31] ∧ w.toNat / 256 = 0) ∨
          (w.toNat % 256 ∈ [0x10, 0x11, 0x12, 0x13] ∧ w.toNat / 256 % 8 = 0) ∨
          (w.toNat % 256 ∈ [0x20, 0x21, 0x30] ∧ w.toNat / 2048 = 0)) := by
  simp only [List.mem_cons, List.not_mem_nil, or_false]
  omega

/-- Settles O3. -/
theorem commandWordsAreThoseOfTheMap : Obligations.CommandWordsAreThoseOfTheMap := by
  intro w
  simp only [decode_eq_ok_iff]
  exact exists_encode_iff.trans (opcode_checks_iff_groups w)

/-- Settles O4: each word is its command's encoding. -/
theorem wordsOfTheSpecDecode : Obligations.WordsOfTheSpecDecode := by
  unfold Obligations.WordsOfTheSpecDecode
  simp only [decode_eq_ok_iff]
  decide

end Sys2Proof

/-! ## The step, access by access (10_state.md R30, R32; 20_memory.md R83; 60_exceptions.md R334) -/

namespace Sys2Proof.Machine

/-! What a command, a transition of the assembler and a store leave as they were (R83, R113), as one equation each. -/

/-- A transition of the assembler writes STATUS, CK_RX, CUR and MSGOUT alone (R290). -/
theorem asmTransition_frame (k : Kind) (v : Word) (s : State) :
    asmTransition k v s = { s with
      err := (asmTransition k v s).err, emit := (asmTransition k v s).emit, asm := (asmTransition k v s).asm,
      ckRx := (asmTransition k v s).ckRx, cur := (asmTransition k v s).cur,
      msgout := (asmTransition k v s).msgout } := by
  rcases asmTransition_cases k v s with
    ⟨_, _, h⟩ | ⟨_, _, h⟩ | ⟨_, _, _, h⟩ | ⟨_, _, _, h⟩ | ⟨_, _, _, h⟩ | ⟨_, _, h⟩
  all_goals rw [h]; rfl

@[simp] theorem asmTransition_ckTx (k : Kind) (v : Word) (s : State) : (asmTransition k v s).ckTx = s.ckTx := by
  rw [asmTransition_frame]

@[simp] theorem asmTransition_txbuf (k : Kind) (v : Word) (s : State) : (asmTransition k v s).txbuf = s.txbuf := by
  rw [asmTransition_frame]

@[simp] theorem asmTransition_txlen (k : Kind) (v : Word) (s : State) : (asmTransition k v s).txlen = s.txlen := by
  rw [asmTransition_frame]

@[simp] theorem asmTransition_rxptr (k : Kind) (v : Word) (s : State) : (asmTransition k v s).rxptr = s.rxptr := by
  rw [asmTransition_frame]

/-- No command writes the instance, CMD, an operand, RXBUF, RXLEN or the host's side (R113). -/
theorem exec_frame {i : Instr} {s t : State} (h : exec i s = .next t) :
    t = { s with
      err := t.err, emit := t.emit, res := t.res, asm := t.asm, ckTx := t.ckTx, ckRx := t.ckRx, txbuf := t.txbuf,
      txlen := t.txlen, rxptr := t.rxptr, cur := t.cur, msgout := t.msgout } := by
  rcases exec_cases h with ⟨_, _, _, _, _, rfl⟩ | ⟨_, _, rfl⟩ | ⟨_, _, rfl⟩ | ⟨sel, _, _, rfl⟩ | ⟨sel, _, rfl⟩ |
    ⟨_, _, _, rfl⟩ | ⟨_, _, _, rfl⟩ | ⟨_, _, _, rfl⟩ | ⟨_, _, _, rfl⟩ | ⟨_, _, _, rfl⟩ | ⟨_, rfl⟩
  case inr.inr.inr.inl => cases sel <;> rfl
  case inr.inr.inr.inr.inl => cases sel <;> rfl
  case inr.inr.inr.inr.inr.inr.inr.inr.inr.inl => rw [asmTransition_frame]; rfl
  all_goals rfl

/-- A store writes an operand register, RXLEN, RXPTR or RXBUF (R83). -/
theorem storeReg_frame {s t : State} {r : Reg} {v : Word} (h : storeReg s r v = some t) :
    t = { s with arg0 := t.arg0, arg1 := t.arg1, rxlen := t.rxlen, rxptr := t.rxptr, rxbuf := t.rxbuf } := by
  rcases storeReg_cases h with ⟨_, rfl⟩ | ⟨_, rfl⟩ | ⟨_, rfl⟩ | ⟨_, rfl⟩ | ⟨_, _, rfl⟩ | ⟨_, _, rfl⟩
  all_goals rfl

/-! The host's side of a step (R32). -/

theorem exec_host {i : Instr} {s t : State} (h : exec i s = .next t) : t.host = s.host := by
  rw [exec_frame h]

theorem exec_hostIndex {i : Instr} {s t : State} (h : exec i s = .next t) : t.hostIndex = s.hostIndex := by
  rw [exec_frame h]

theorem runCommand_host {w : Word} {s t : State} (h : runCommand w s = .next t) :
    t.host = s.host ∧ t.hostIndex = s.hostIndex := by
  rcases runCommand_cases h with ⟨i, _, hx⟩ | ⟨_, _, rfl⟩
  · exact ⟨(exec_host hx).trans (s.storeCmd_host w), (exec_hostIndex hx).trans (s.storeCmd_hostIndex w)⟩
  · exact ⟨rfl, rfl⟩

theorem storeReg_host {s t : State} {r : Reg} {v : Word} (h : storeReg s r v = some t) :
    t.host = s.host ∧ t.hostIndex = s.hostIndex := by
  rw [storeReg_frame h]
  exact ⟨rfl, rfl⟩

/-! The statements. -/

/-- The step of a well-formed instance whose host writes a word to CMD next. -/
theorem step_memWrite_cmd {s : State} {w : Word} {rest : List HostAction} (hc : configWf s.cfg = true)
    (hh : s.host = .memWrite 0x000 4 w :: rest) : step s = runCommand w (s.takeAccess rest) :=
  (step_memWrite hc hh).trans (busWrite_zero w _)

/-- Settles O6: the step is the command cycle, which runs the decoded command or raises ERR_OPCODE. -/
theorem stepRunsTheDecodedCommand : Obligations.StepRunsTheDecodedCommand := by
  intro s w rest hc hh
  rw [step_memWrite_cmd hc hh, runCommand]
  refine ⟨fun i hi => ?_, fun e he => ?_⟩
  · rw [hi]; rfl
  · rw [he]; rfl

/-- Settles O7. -/
theorem everyCommandCompletes : Obligations.EveryCommandCompletes := exec_completes

/-- Settles O23: the access passes its check, and the bus answers with the register (`busRead`). -/
theorem readsAnswerAndChangeNothing : Obligations.ReadsAnswerAndChangeNothing := by
  intro s addr r rest hc hh ha hr
  have hcheck : checkAccess (s.takeAccess rest).cfg addr 4 = .ok r := checkAccess_ok.mpr ⟨rfl, ha, hr⟩
  rw [step_memRead hc hh, busRead, hcheck]
  rfl

/-- Settles O26: by what the step can do (`step_cases`), no command and no store touching the host's side. -/
theorem eachAccessAdvancesTheHostsIndex : Obligations.EachAccessAdvancesTheHostsIndex := by
  refine ⟨fun s hc hh => by simp [step, instanceStep, hostStep, hc, hh], fun s t a rest hh h => ?_⟩
  obtain ⟨_, hcase⟩ := step_cases h
  rcases hcase with ⟨hnil, _⟩ | ⟨_, _, _, hread, _, _, rfl⟩ | ⟨_, _, _, _, hstore, _, _, _, hst⟩ |
    ⟨_, _, _, hcmd, _, _, hrun⟩ | ⟨_, hreset, rfl⟩
  · rw [hh] at hnil; cases hnil
  · rw [hh] at hread; cases hread
    exact ⟨rfl, rfl⟩
  · rw [hh] at hstore; cases hstore
    exact storeReg_host hst
  · rw [hh] at hcmd; cases hcmd
    exact runCommand_host hrun
  · rw [hh] at hreset; cases hreset
    exact ⟨rfl, rfl⟩

/-- Settles O28, by the first check of every step. -/
theorem illFormedInstanceIsRefused : Obligations.IllFormedInstanceIsRefused := by
  intro s hc
  simp [step, instanceStep, hc]

/-! STATUS (R35). -/

/-- STATUS is the sum of its three fields, its upper bits being 0. -/
theorem statusWord_toNat (s : State) :
    (statusWord s).toNat =
      (errCodeNumber s.err).toNat + (if s.asm = .inMessage then 256 else 0) + (if s.emit = true then 512 else 0) := by
  unfold statusWord
  cases s.err <;> cases s.asm <;> cases s.emit <;> rfl

/-- Settles O16: the sum of the fields, and the codes of R330 in their order. -/
theorem statusShowsItsFields : Obligations.StatusShowsItsFields := ⟨statusWord_toNat, rfl⟩

end Sys2Proof.Machine

/-! ## What a command writes, and when it emits (30_encoding.md R113; 10_state.md R35, R39) -/

namespace Sys2Proof.Machine

/-- Outside its column "writes" a command keeps every register that a command can write at all, STATUS excepted. -/
theorem exec_keeps {i : Instr} {s t : State} (h : exec i s = .next t) :
    (commandWrites i .res = false → t.res = s.res) ∧ (commandWrites i .ckTx = false → t.ckTx = s.ckTx) ∧
      (commandWrites i .ckRx = false → t.ckRx = s.ckRx) ∧
      (commandWrites i .txlen = false → t.txlen = s.txlen ∧ t.txbuf = s.txbuf) ∧
      (commandWrites i .rxptr = false → t.rxptr = s.rxptr) ∧ (commandWrites i .curlen = false → t.cur = s.cur) ∧
      (commandWrites i .msglen = false → t.msgout = s.msgout) := by
  rcases exec_cases h with ⟨_, _, _, _, _, rfl⟩ | ⟨_, rfl, rfl⟩ | ⟨_, rfl | rfl, rfl⟩ | ⟨sel, _, rfl | rfl, rfl⟩ |
    ⟨sel, rfl, rfl⟩ | ⟨_, _, rfl, rfl⟩ | ⟨_, rfl, _, rfl⟩ | ⟨_, rfl, _, rfl⟩ | ⟨_, rfl, _, rfl⟩ | ⟨_, rfl, _, rfl⟩ |
    ⟨rfl, rfl⟩
  case inr.inr.inr.inl.inl => cases sel <;> simp [commandWrites]
  case inr.inr.inr.inl.inr => cases sel <;> simp [commandWrites]
  case inr.inr.inr.inr.inl => cases sel <;> simp [commandWrites]
  all_goals simp [commandWrites]

/-- Each register reads one field of the state or a parameter: a command that does not name the register keeps it. -/
theorem readReg_exec {i : Instr} {s t : State} (h : exec i s = .next t) {r : Reg} (hr : commandWrites i r = false) :
    readReg t r = readReg s r := by
  obtain ⟨hres, hckTx, hckRx, htx, hrxptr, hcur, hmsgout⟩ := exec_keeps h
  cases r with
  | status => cases hr
  | res => exact hres hr
  | ckTx => exact hckTx hr
  | ckRx => exact hckRx hr
  | txlen => exact congrArg countWord (htx hr).1
  | txMark j => exact congrArg (fun ps => (pulseAt ps j).mark) (htx hr).2
  | txSpace j => exact congrArg (fun ps => (pulseAt ps j).space) (htx hr).2
  | rxptr => exact congrArg countWord (hrxptr hr)
  | cur j => exact congrArg (entryWord · j) (hcur hr)
  | curlen => exact congrArg (countWord ·.length) (hcur hr)
  | msgout j => exact congrArg (entryWord · j) (hmsgout hr)
  | msglen => exact congrArg (countWord ·.length) (hmsgout hr)
  | _ => rw [exec_frame h]; rfl

/-- Settles O11: `readReg_exec` for what the host reads, and `exec_frame` for the rest of the state. -/
theorem commandsWriteOnlyTheirRegisters : Obligations.CommandsWriteOnlyTheirRegisters := by
  intro i s t h
  refine ⟨fun r => readReg_exec h, ?_⟩
  rw [exec_frame h]
  exact ⟨rfl, rfl, rfl, rfl, rfl, rfl, rfl⟩

/-- Only a transition of the assembler can emit: every other command leaves EMIT 0 and MSGOUT as it was. -/
theorem exec_emit_cases {i : Instr} {s t : State} (h : exec i s = .next t) :
    (t.emit = false ∧ t.msgout = s.msgout) ∨
      ∃ k, i = .asmFeed (kindCode k) ∧ legal k s.arg0.toNat = true ∧ t = asmTransition k s.arg0 s.startCommand := by
  rcases exec_cases h with ⟨_, _, _, _, _, rfl⟩ | ⟨_, _, rfl⟩ | ⟨_, _, rfl⟩ | ⟨_, _, _, rfl⟩ | ⟨_, _, rfl⟩ |
    ⟨_, _, _, rfl⟩ | ⟨_, _, _, rfl⟩ | ⟨_, _, _, rfl⟩ | ⟨_, _, _, rfl⟩ | hfeed | ⟨_, rfl⟩
  case inr.inr.inr.inr.inr.inr.inr.inr.inr.inl => exact .inr hfeed
  all_goals exact .inl (by simp)

/-- Settles O14: of the transitions only the two that call `emitMessage` set EMIT, and MSGOUT is their message. -/
theorem emitLatchesTheCompletedMessage : Obligations.EmitLatchesTheCompletedMessage := by
  intro i s t h
  rcases exec_emit_cases h with hkept | ⟨k, rfl, -, rfl⟩
  · exact .inl hkept
  · rcases asmTransition_cases k s.arg0 s.startCommand with
      ⟨_, _, ht⟩ | ⟨_, _, ht⟩ | ⟨_, _, _, ht⟩ | ⟨_, _, _, ht⟩ | ⟨hk, hs, _, ht⟩ | ⟨hk, hs, ht⟩
    case inr.inr.inr.inr.inr.inl =>
      rw [ht]
      exact .inr ⟨rfl, rfl, rfl, k, rfl, .inr ⟨hs, hk, by rw [hk]; rfl⟩⟩
    case inr.inr.inr.inr.inr.inr =>
      rw [ht]
      exact .inr ⟨rfl, rfl, hs, k, rfl, .inl ⟨hs, rfl, hk⟩⟩
    all_goals exact .inl (by simp [ht])

end Sys2Proof.Machine

/-! ## The invariant of the block (10_state.md R38 to R42; 45_assembler.md R291; 70_reset_and_hazards.md R370) -/

namespace Sys2Proof.Machine

/-! After a reset. -/

theorem pulseAt_replicate_zeroPulse (n i : Nat) : pulseAt (List.replicate n zeroPulse) i = zeroPulse :=
  List.getD_eq_getElem?_getD.trans (List.getElem?_getD_replicate_default_eq ..)

theorem resetOf_inv {c : Config} (hc : configWf c = true) (k : Nat) : (State.resetOf c k).Inv where
  config := hc
  memory := Memory.resetOf_wf c k
  txlenBound := Nat.zero_le _
  txTail := fun i _ => pulseAt_replicate_zeroPulse txCap i
  rxlenBound := Nat.zero_le _
  rxptrBound := Nat.zero_le _
  asmCur := by simp [State.resetOf]
  curShape := by simp [State.resetOf]
  curBound := Nat.zero_le _
  msgShape := .inl rfl

/-- Settles O18: REFCFG, of the machine's reset state, is well formed. -/
theorem resetStateMeetsTheInvariant : Obligations.ResetStateMeetsTheInvariant :=
  ⟨fun _ k hc => resetOf_inv hc k, resetOf_inv (by decide) 0⟩

namespace State.Inv

variable {s : State} (h : s.Inv)
include h

/-! Updates of a register the invariant does not speak of. -/

theorem startCommand : s.startCommand.Inv := { h with }

theorem raise (code : ErrCode) : (s.raise code).Inv := { h with }

theorem report (code : ErrCode) : (s.report code).Inv := { h with }

theorem storeCmd (w : Word) : (s.storeCmd w).Inv := { h with }

theorem setArg0 (v : Word) : (s.setArg0 v).Inv := { h with }

theorem setArg1 (v : Word) : (s.setArg1 v).Inv := { h with }

theorem setRes (v : Word) : (s.setRes v).Inv := { h with }

theorem setCk (sel : CkSel) (v : Word) : (s.setCk sel v).Inv := by cases sel <;> exact { h with }

theorem takeAccess (rest : List HostAction) : (s.takeAccess rest).Inv := { h with }

theorem takeReset (rest : List HostAction) : (s.takeReset rest).Inv := { h with }

theorem addRead (v : Word) : { s with reads := v :: s.reads }.Inv := { h with }

/-! Updates of the buffers and their counts. -/

theorem setRxlen (v : Word) : (s.setRxlen v).Inv := { h with rxlenBound := Nat.min_le_right .. }

theorem setRxptr (v : Word) : (s.setRxptr v).Inv := { h with rxptrBound := Nat.min_le_right .. }

theorem advanceRxptr {next : Nat} (hnext : next ≤ s.cfg.rxCap) : (s.advanceRxptr next).Inv :=
  { h with rxptrBound := hnext }

theorem setRxMark (i : Nat) (v : Word) : (s.setRxMark i v).Inv := { h with memory := Memory.setRxMark_wf h.memory i v }

theorem setRxSpace (i : Nat) (v : Word) : (s.setRxSpace i v).Inv :=
  { h with memory := Memory.setRxSpace_wf h.memory i v }

theorem loadTrain {train : List Pulse} (htrain : train.length ≤ txCap) : (s.loadTrain train).Inv :=
  { h with
    memory := Memory.loadTrain_wf h.memory htrain
    txlenBound := htrain
    txTail := fun _ => pulseAt_loadTrain_tail s train }

theorem resetInput : (resetInput s).Inv := { resetOf_inv h.config (s.resets + 1) with }

/-! The assembler's helpers (R285). -/

theorem discard : s.discard.Inv :=
  { h with
    asmCur := by simp
    curShape := by simp
    curBound := Nat.zero_le _ }

theorem finish : s.finish.Inv :=
  { h with
    asmCur := by simp
    curShape := by simp
    curBound := Nat.zero_le _ }

theorem setCur {m : List Field} (hm : OpenMessage m) (hlen : m.length ≤ s.cfg.maxData + 1) : (s.setCur m).Inv :=
  { h with
    asmCur := by obtain ⟨p, ds, rfl, _⟩ := hm; simp
    curShape := fun _ => hm
    curBound := hlen }

theorem emitMessage {m : List Field} (hm : FramedMessage s.cfg.maxData m ∨ SingleMessage m) :
    (s.emitMessage m).Inv :=
  { h with msgShape := .inr hm }

end State.Inv

/-! The messages the assembler builds (R38, R291). -/

theorem mkField_legal {k : Kind} {v : Nat} (h : legal k v = true) : (mkField k v).Legal := by
  rw [Field.Legal, mkField_value_toNat h]
  exact h

theorem openMessage_packet {v : Nat} (h : legal .packet v = true) : OpenMessage [mkField .packet v] :=
  ⟨_, [], rfl, rfl, mkField_legal h, by simp⟩

theorem OpenMessage.append_data {m : List Field} (hm : OpenMessage m) {v : Nat} (h : legal .data v = true) :
    OpenMessage (m ++ [mkField .data v]) := by
  obtain ⟨p, ds, rfl, hk, hp, hds⟩ := hm
  refine ⟨p, ds ++ [mkField .data v], rfl, hk, hp, fun d hd => ?_⟩
  rcases List.mem_append.mp hd with hd | hd
  · exact hds d hd
  · rw [List.mem_singleton.mp hd]
    exact ⟨rfl, mkField_legal h⟩

theorem singleMessage_mkField {k : Kind} (hk : k = .tag ∨ k = .beacon ∨ k = .ltarBeacon) {v : Nat}
    (h : legal k v = true) : SingleMessage [mkField k v] :=
  ⟨_, rfl, hk, mkField_legal h⟩

/-! Every command and every step keep the invariant. -/

theorem asmTransition_inv {k : Kind} {v : Word} {s : State} (h : s.Inv) (hl : legal k v.toNat = true) :
    (asmTransition k v s).Inv := by
  rcases asmTransition_cases k v s with
    ⟨e, _, ht⟩ | ⟨rfl, _, ht⟩ | ⟨rfl, _, _, ht⟩ | ⟨rfl, hs, hcur, ht⟩ | ⟨rfl, hs, _, ht⟩ | ⟨hk, _, ht⟩ <;> rw [ht]
  · exact h.discard.report e
  · exact (h.setCk .rx v).setCur (openMessage_packet hl) (by simp)
  · exact ((h.discard.setCk .rx v).setCur (openMessage_packet hl) (by simp)).report .seq
  · refine (h.setCk .rx _).setCur ((h.curShape hs).append_data hl) ?_
    have hbound := h.curBound
    simp only [List.length_append, List.length_singleton, State.setCk_cfg]
    omega
  · exact (h.emitMessage (.inl ⟨_, _, rfl, h.curShape hs, h.curBound, rfl, mkField_legal hl⟩)).finish
  · exact h.emitMessage (.inr (singleMessage_mkField hk hl))

theorem exec_inv {i : Instr} {s t : State} (h : s.Inv) (hx : exec i s = .next t) : t.Inv := by
  rcases exec_cases hx with ⟨e, _, _, _, _, rfl⟩ | ⟨v, _, rfl⟩ | ⟨v, _, rfl⟩ | ⟨sel, v, _, rfl⟩ | ⟨sel, _, rfl⟩ |
    ⟨_, v, _, rfl⟩ | ⟨k, _, _, rfl⟩ | ⟨k, _, _, rfl⟩ | ⟨d, _, hd, rfl⟩ | ⟨k, _, hl, rfl⟩ | ⟨_, rfl⟩
  · exact h.raise e
  · exact h.startCommand.setRes v
  · exact h.startCommand.setRes v
  · exact h.startCommand.setCk sel v
  · exact (h.startCommand.setCk sel _).setRes _
  · exact h.startCommand.setRes v
  · exact h.startCommand.loadTrain (encodeField_length_le ..)
  · exact ((h.startCommand.setCk .tx _).loadTrain (encodeField_length_le ..)).setRes _
  · exact (h.startCommand.setRes _).advanceRxptr ((decodeField_bounds hd).2.trans h.rxlenBound)
  · exact asmTransition_inv h.startCommand hl
  · exact h.startCommand.discard

theorem runCommand_inv {w : Word} {s t : State} (h : s.Inv) (hr : runCommand w s = .next t) : t.Inv := by
  rcases runCommand_cases hr with ⟨i, _, hx⟩ | ⟨_, _, rfl⟩
  · exact exec_inv (h.storeCmd w) hx
  · exact (h.storeCmd w).raise .opcode

theorem storeReg_inv {s t : State} {r : Reg} {v : Word} (h : s.Inv) (hst : storeReg s r v = some t) : t.Inv := by
  rcases storeReg_cases hst with ⟨_, rfl⟩ | ⟨_, rfl⟩ | ⟨_, rfl⟩ | ⟨_, rfl⟩ | ⟨i, _, rfl⟩ | ⟨i, _, rfl⟩
  exacts [h.setArg0 v, h.setArg1 v, h.setRxlen v, h.setRxptr v, h.setRxMark i v, h.setRxSpace i v]

/-- Settles O19, by what a step can do (`step_cases`). -/
theorem everyStepKeepsTheInvariant : Obligations.EveryStepKeepsTheInvariant := by
  intro s t h hstep
  obtain ⟨_, hcase⟩ := step_cases hstep
  rcases hcase with ⟨_, rfl⟩ | ⟨_, rest, _, _, _, _, rfl⟩ | ⟨_, _, rest, _, _, _, _, _, hst⟩ |
    ⟨_, _, rest, _, _, _, hrun⟩ | ⟨rest, _, rfl⟩
  · exact h
  · exact (h.takeAccess rest).addRead _
  · exact storeReg_inv (h.takeAccess rest) hst
  · exact runCommand_inv (h.takeAccess rest) hrun
  · exact (h.takeReset rest).resetInput

end Sys2Proof.Machine

/-! ## The running total of the message in progress (45_assembler.md R291; 43_checksum.md R205) -/

namespace Sys2Proof.Machine

@[simp] theorem fieldSum_append (m m' : List Field) : fieldSum (m ++ m') = fieldSum m + fieldSum m' := by
  simp [fieldSum]

theorem fieldSum_mkField {k : Kind} {v : Nat} (h : legal k v = true) : fieldSum [mkField k v] = v := by
  simp [fieldSum, mkField_value_toNat h]

/-- The total is a matter of the assembler state, CUR and CK_RX mod 256 alone. -/
theorem RunningTotal.of_eq {s t : State} (h : RunningTotal s) (hasm : t.asm = s.asm) (hcur : t.cur = s.cur)
    (hck : t.ckRx.toNat % 256 = s.ckRx.toNat % 256) : RunningTotal t := by
  intro ht
  rw [hck, hcur]
  exact h (hasm.symm.trans ht)

theorem runningTotal_of_idle {s : State} (h : s.asm = .idle) : RunningTotal s := by
  intro hs
  cases h.symm.trans hs

/-- A message opened with a PACKET has its value for total (R290). -/
theorem runningTotal_open {s : State} {v : Word} (hl : legal .packet v.toNat = true) :
    RunningTotal ((s.setCk .rx v).setCur [mkField .packet v.toNat]) := by
  intro _
  simp [fieldSum_mkField hl]

/-- A DATA appended to CUR and added to CK_RX keeps the total (R290). -/
theorem RunningTotal.append {s : State} (h : RunningTotal s) (hs : s.asm = .inMessage) {v : Word}
    (hl : legal .data v.toNat = true) :
    RunningTotal ((s.setCk .rx (s.ckRx + v)).setCur (s.cur ++ [mkField .data v.toNat])) := by
  intro _
  have htotal := h hs
  simp only [State.setCur_ckRx, State.setCk_rx_ckRx, State.setCur_cur, BitVec.toNat_add, fieldSum_append,
    fieldSum_mkField hl]
  omega

theorem asmTransition_runningTotal {k : Kind} {v : Word} {s : State} (h : RunningTotal s)
    (hl : legal k v.toNat = true) : RunningTotal (asmTransition k v s) := by
  rcases asmTransition_cases k v s with
    ⟨e, _, ht⟩ | ⟨rfl, _, ht⟩ | ⟨rfl, _, _, ht⟩ | ⟨rfl, hs, _, ht⟩ | ⟨rfl, _, _, ht⟩ | ⟨_, hs, ht⟩ <;> rw [ht]
  · exact runningTotal_of_idle rfl
  · exact runningTotal_open hl
  · exact (runningTotal_open (s := s.discard) hl).of_eq rfl rfl rfl
  · exact h.append hs hl
  · exact runningTotal_of_idle rfl
  · exact runningTotal_of_idle hs

/-- R386's two direct commands apart, every command keeps the total; CK_FINAL reduces CK_RX mod 256 only. -/
theorem exec_runningTotal {i : Instr} {s t : State} (h : RunningTotal s) (hstart : i ≠ .ckStart .rx)
    (hacc : i ≠ .ckAcc .rx) (hx : exec i s = .next t) : RunningTotal t := by
  rcases exec_cases hx with ⟨_, _, _, _, _, rfl⟩ | ⟨_, _, rfl⟩ | ⟨_, _, rfl⟩ | ⟨sel, _, hi, rfl⟩ | ⟨sel, _, rfl⟩ |
    ⟨_, _, _, rfl⟩ | ⟨_, _, _, rfl⟩ | ⟨_, _, _, rfl⟩ | ⟨_, _, _, rfl⟩ | ⟨_, _, hl, rfl⟩ | ⟨_, rfl⟩
  case inr.inr.inr.inl =>
    cases sel with
    | tx => exact h.of_eq rfl rfl rfl
    | rx => exact (hi.elim hstart hacc).elim
  case inr.inr.inr.inr.inl =>
    cases sel with
    | tx => exact h.of_eq rfl rfl rfl
    | rx => exact h.of_eq rfl rfl (by simp [ckReduced_toNat])
  case inr.inr.inr.inr.inr.inr.inr.inr.inr.inl => exact asmTransition_runningTotal h hl
  case inr.inr.inr.inr.inr.inr.inr.inr.inr.inr => exact runningTotal_of_idle rfl
  all_goals exact h.of_eq rfl rfl rfl

/-- The CHECKSUM that passes against the total of a message has the law's value for it (R205). -/
theorem checksum_eq_of_valid {s : State} {v : Word} (h : RunningTotal s) (hs : s.asm = .inMessage)
    (hl : legal .checksum v.toNat = true) (hv : ckValid s.ckRx v = true) :
    v.toNat = fieldSum s.cur % 256 + 256 := by
  have htotal := h hs
  have hck := (ckValid_iff_of_legal hl).mp hv
  obtain ⟨hlow, hhigh⟩ := legal_iff.mp hl
  simp only [kindLow, kindHigh] at hlow hhigh
  omega

/-- Settles O20: the total by `exec_runningTotal`; and of the transitions that emit, one emits a single field, the other
CUR with a CHECKSUM that passed against its total. -/
theorem runningTotalIsTheSumOfTheMessage : Obligations.RunningTotalIsTheSumOfTheMessage := by
  intro i s t hinv h hstart hacc hx
  refine ⟨exec_runningTotal h hstart hacc hx, fun hemit => ?_⟩
  rcases exec_emit_cases hx with ⟨hnone, _⟩ | ⟨k, rfl, hl, rfl⟩
  · simp [hnone] at hemit
  · rcases asmTransition_cases k s.arg0 s.startCommand with
      ⟨_, _, ht⟩ | ⟨_, _, ht⟩ | ⟨_, _, _, ht⟩ | ⟨_, _, _, ht⟩ | ⟨rfl, hs, hv, ht⟩ | ⟨hk, hs, ht⟩
    case inr.inr.inr.inr.inr.inl =>
      rw [ht]
      refine .inr ⟨s.cur, _, rfl, hinv.curShape hs, rfl, ?_⟩
      rw [mkField_value_toNat hl]
      exact checksum_eq_of_valid h hs hl hv
    case inr.inr.inr.inr.inr.inr =>
      rw [ht]
      exact .inl (singleMessage_mkField hk hl)
    all_goals simp [ht] at hemit

end Sys2Proof.Machine

/-! ## The register map: its numbers, its contents, and the stores (10_state.md R41, R42, R46; 20_memory.md R83) -/

namespace Sys2Proof.Machine

/-! What an entry of CUR or MSGOUT reads as (R14, R38, R39). -/

/-- The FIELDWORD of a field as a sum. -/
theorem Field.word_toNat (f : Field) : f.word.toNat = (kindCode f.kind).toNat * 65536 + f.value.toNat := by
  have hcode := kindCode_toNat_le f.kind
  have hvalue := f.value.isLt
  rw [Field.word, fieldWord_eq hvalue, BitVec.toNat_ofNat]
  omega

theorem entryWord_of_getElem? {m : List Field} {i : Nat} {f : Field} (h : m[i]? = some f) :
    entryWord m i = f.word := by
  simp [entryWord, h]

theorem entryWord_of_length_le {m : List Field} {i : Nat} (h : m.length ≤ i) : entryWord m i = 0 := by
  simp [entryWord, h]

theorem pulseAt_of_getElem? {ps : List Pulse} {i : Nat} {p : Pulse} (h : ps[i]? = some p) : pulseAt ps i = p := by
  simp [pulseAt, h]

/-! The index bounds (R46). -/

theorem regMapped_txMark {c : Config} {i : Nat} : regMapped c (.txMark i) = true ↔ i ≤ 12 :=
  decide_eq_true_iff.trans Nat.lt_succ_iff

theorem regMapped_txSpace {c : Config} {i : Nat} : regMapped c (.txSpace i) = true ↔ i ≤ 12 :=
  decide_eq_true_iff.trans Nat.lt_succ_iff

theorem regMapped_msgout {c : Config} {i : Nat} : regMapped c (.msgout i) = true ↔ i ≤ c.maxData + 1 :=
  decide_eq_true_iff

theorem regMapped_cur {c : Config} {i : Nat} : regMapped c (.cur i) = true ↔ i ≤ c.maxData := decide_eq_true_iff

theorem regMapped_rxMark {c : Config} {i : Nat} : regMapped c (.rxMark i) = true ↔ i < c.rxCap := decide_eq_true_iff

theorem regMapped_rxSpace {c : Config} {i : Nat} : regMapped c (.rxSpace i) = true ↔ i < c.rxCap := decide_eq_true_iff

/-- Settles O22: the numbers are the map's by definition, `regAt_iff` finds the register of an address, and the ranges
of R9 keep each region in its window. -/
theorem registerMapGivesEachAddressItsRegister : Obligations.RegisterMapGivesEachAddressItsRegister := by
  refine ⟨rfl, rfl, fun i => ⟨rfl, rfl, rfl, rfl, rfl, rfl, rfl⟩, fun c r => ?_, fun s => ⟨rfl, rfl, ?_⟩,
    fun c addr r hc => regAt_iff hc, fun c i hc => ?_⟩
  · cases r with
    | txMark i => exact regMapped_txMark
    | txSpace i => exact regMapped_txSpace
    | msgout i => exact regMapped_msgout
    | cur i => exact regMapped_cur
    | rxMark i => exact regMapped_rxMark
    | rxSpace i => exact regMapped_rxSpace
    | _ => exact iff_of_true rfl trivial
  · refine ⟨fun i p h => ?_, fun i p h => ?_, fun i f h => ?_, fun i f h => ?_, fun i => entryWord_of_length_le,
      fun i => entryWord_of_length_le⟩
    · exact ⟨congrArg Pulse.mark (pulseAt_of_getElem? h), congrArg Pulse.space (pulseAt_of_getElem? h)⟩
    · exact ⟨congrArg Pulse.mark (pulseAt_of_getElem? h), congrArg Pulse.space (pulseAt_of_getElem? h)⟩
    · exact (congrArg BitVec.toNat (entryWord_of_getElem? h)).trans f.word_toNat
    · exact (congrArg BitVec.toNat (entryWord_of_getElem? h)).trans f.word_toNat
  · obtain ⟨_, _, hcap, _, hdata⟩ := of_decide_eq_true hc
    rw [regMapped_msgout, regMapped_cur, regMapped_rxSpace]
    simp only [regAddr, rxSpaceAddr]
    omega

/-! The stores: what a register reads as after each (R41, R42, R83). -/

theorem readReg_setArg0_of_ne {r : Reg} (hr : r ≠ .arg0) (s : State) (v : Word) :
    readReg (s.setArg0 v) r = readReg s r := by
  cases r with
  | arg0 => exact absurd rfl hr
  | _ => rfl

theorem readReg_setArg1_of_ne {r : Reg} (hr : r ≠ .arg1) (s : State) (v : Word) :
    readReg (s.setArg1 v) r = readReg s r := by
  cases r with
  | arg1 => exact absurd rfl hr
  | _ => rfl

theorem readReg_setRxlen_of_ne {r : Reg} (hr : r ≠ .rxlen) (s : State) (v : Word) :
    readReg (s.setRxlen v) r = readReg s r := by
  cases r with
  | rxlen => exact absurd rfl hr
  | _ => rfl

theorem readReg_setRxptr_of_ne {r : Reg} (hr : r ≠ .rxptr) (s : State) (v : Word) :
    readReg (s.setRxptr v) r = readReg s r := by
  cases r with
  | rxptr => exact absurd rfl hr
  | _ => rfl

/-- A pulse's update reaches its own index only, and there only what it changes. -/
theorem pulseAt_modify_of_eq {α : Type} (get : Pulse → α) {f : Pulse → Pulse} {i j : Nat}
    (h : i ≠ j ∨ ∀ p, get (f p) = get p) (ps : List Pulse) :
    get (pulseAt (ps.modify i f) j) = get (pulseAt ps j) := by
  rw [pulseAt_modify]
  split_ifs with hij
  · exact h.resolve_left (not_not.mpr hij.1) _
  · rfl

theorem readReg_setRxMark_of_ne {r : Reg} {i : Nat} (hr : r ≠ .rxMark i) (s : State) (v : Word) :
    readReg (s.setRxMark i v) r = readReg s r := by
  cases r with
  | rxMark j => exact pulseAt_modify_of_eq Pulse.mark (i := i) (.inl fun hij => hr (hij ▸ rfl)) s.rxbuf
  | rxSpace j => exact pulseAt_modify_of_eq Pulse.space (f := ({ · with mark := v })) (.inr fun _ => rfl) s.rxbuf
  | _ => rfl

theorem readReg_setRxSpace_of_ne {r : Reg} {i : Nat} (hr : r ≠ .rxSpace i) (s : State) (v : Word) :
    readReg (s.setRxSpace i v) r = readReg s r := by
  cases r with
  | rxMark j => exact pulseAt_modify_of_eq Pulse.mark (f := ({ · with space := v })) (.inr fun _ => rfl) s.rxbuf
  | rxSpace j => exact pulseAt_modify_of_eq Pulse.space (i := i) (.inl fun hij => hr (hij ▸ rfl)) s.rxbuf
  | _ => rfl

/-- A store leaves every other register as it read. -/
theorem readReg_storeReg_of_ne {s t : State} {r r' : Reg} {v : Word} (h : storeReg s r v = some t) (hr : r' ≠ r) :
    readReg t r' = readReg s r' := by
  rcases storeReg_cases h with ⟨rfl, rfl⟩ | ⟨rfl, rfl⟩ | ⟨rfl, rfl⟩ | ⟨rfl, rfl⟩ | ⟨i, rfl, rfl⟩ | ⟨i, rfl, rfl⟩
  exacts [readReg_setArg0_of_ne hr s v, readReg_setArg1_of_ne hr s v, readReg_setRxlen_of_ne hr s v,
    readReg_setRxptr_of_ne hr s v, readReg_setRxMark_of_ne hr s v, readReg_setRxSpace_of_ne hr s v]

/-- The stored register reads as the value, RXLEN and RXPTR as its clamp to RX_CAP. -/
theorem readReg_storeReg_self {s t : State} {r : Reg} {v : Word} (h : storeReg s r v = some t)
    (hm : Memory.wf s = true) (hr : regMapped s.cfg r = true) :
    readReg t r = if r = .rxlen ∨ r = .rxptr then BitVec.ofNat 32 (min v.toNat s.cfg.rxCap) else v := by
  have hlen := (Memory.wf_iff.mp hm).2
  rcases storeReg_cases h with ⟨rfl, rfl⟩ | ⟨rfl, rfl⟩ | ⟨rfl, rfl⟩ | ⟨rfl, rfl⟩ | ⟨i, rfl, rfl⟩ | ⟨i, rfl, rfl⟩
  iterate 4 rfl
  · have hi : i < s.rxbuf.length := hlen ▸ regMapped_rxMark.mp hr
    simp [readReg, pulseAt_modify, hi]
  · have hi : i < s.rxbuf.length := hlen ▸ regMapped_rxSpace.mp hr
    simp [readReg, pulseAt_modify, hi]

/-- An aligned 32-bit write to a register that stores is that store (R83). -/
theorem busWrite_storeReg {s t : State} {addr : Nat} {v : Word} {r : Reg} (ha : addr % 4 = 0)
    (hr : regAt s.cfg addr = some r) (hst : storeReg s r v = some t) : busWrite addr 4 v s = .next t := by
  have hcheck : checkAccess s.cfg addr 4 = .ok r := checkAccess_ok.mpr ⟨rfl, ha, hr⟩
  -- the arm for a store is the one after CMD's: `simp` takes `hcmd` from the context
  have hcmd : r ≠ .cmd := (storeReg_completes_iff.mp ⟨t, hst⟩).2
  simp [busWrite, hcheck, hst]

/-- Settles O24: the step is the store, what it writes and what it leaves. -/
theorem storingWritesChangeOneRegister : Obligations.StoringWritesChangeOneRegister := by
  intro s addr v r rest hc hm hh ha hr hw hcmd
  obtain ⟨t, hst⟩ := (storeReg_completes_iff (s := s.takeAccess rest) (v := v)).mpr ⟨hw, hcmd⟩
  refine ⟨t, ?_, readReg_storeReg_self (s := s.takeAccess rest) hst hm ((regAt_iff hc).mp hr).2, fun r' hr' => ?_, ?_⟩
  · rw [step_memWrite hc hh]
    exact busWrite_storeReg ha hr hst
  · rw [readReg_storeReg_of_ne hst hr']
    cases r' <;> rfl
  · rw [storeReg_frame hst]
    exact ⟨rfl, rfl, rfl, rfl, rfl⟩

end Sys2Proof.Machine

/-! ## The register map shows the whole state of the block (60_exceptions.md R341) -/

namespace Sys2Proof.Machine

/-! What a register shows: reading alike means being alike. -/

theorem countWord_inj {m n : Nat} (hm : m < 2 ^ 32) (hn : n < 2 ^ 32) (h : countWord m = countWord n) : m = n := by
  have htoNat := congrArg BitVec.toNat h
  simp only [countWord, BitVec.toNat_ofNat] at htoNat
  omega

theorem errCodeNumber_injective {e e' : ErrCode} (h : errCodeNumber e = errCodeNumber e') : e = e' := by
  have left_inv : ∀ e, ErrCode.ofNat (errCodeNumber e).toNat = e := by rintro (_ | _) <;> rfl
  rw [← left_inv e, h, left_inv]

theorem statusWord_err (s : State) : (statusWord s).extractLsb' 0 8 = errCodeNumber s.err := by
  unfold statusWord
  cases s.err <;> cases s.asm <;> cases s.emit <;> rfl

theorem statusWord_emit (s : State) : (statusWord s).getLsbD 9 = s.emit := by
  rw [statusWord, BitVec.getLsbD_append, BitVec.getLsbD_append]
  simp

/-- STATUS shows the error code, the assembler state and EMIT (R35). -/
theorem status_of_statusWord_eq {s t : State} (h : statusWord s = statusWord t) :
    s.err = t.err ∧ s.asm = t.asm ∧ s.emit = t.emit := by
  refine ⟨errCodeNumber_injective ?_, ?_, ?_⟩
  · rw [← statusWord_err, h, statusWord_err]
  · have hasm : decide (s.asm = .inMessage) = decide (t.asm = .inMessage) := by
      rw [← statusWord_asm, h, statusWord_asm]
    cases hs : s.asm <;> cases ht : t.asm <;> simp_all
  · rw [← statusWord_emit, h, statusWord_emit]

/-- P_OPTIONS shows both options (R45). -/
theorem options_of_optionsWord_eq {c d : Config} (h : optionsWord c = optionsWord d) :
    c.packetRestart = d.packetRestart ∧ c.bcd2decInvalid = d.bcd2decInvalid := by
  unfold optionsWord at h
  cases hc : c.packetRestart <;> cases hd : d.packetRestart <;> cases hc' : c.bcd2decInvalid <;>
    cases hd' : d.bcd2decInvalid <;> simp_all

/-- A FIELDWORD shows its field's kind and value (R14). -/
theorem Field.word_injective {f g : Field} (h : f.word = g.word) : f = g := by
  have hword := congrArg BitVec.toNat h
  have hf := f.value.isLt
  have hg := g.value.isLt
  rw [Field.word_toNat, Field.word_toNat] at hword
  have hkind : f.kind = g.kind := kindCode_injective (BitVec.eq_of_toNat_eq (by omega))
  have hvalue : f.value = g.value := BitVec.eq_of_toNat_eq (by omega)
  cases f
  cases g
  exact congrArg₂ Field.mk hkind hvalue

/-- The entries of a field list show the list. -/
theorem fields_of_entryWord_eq {m m' : List Field} (hlen : m.length = m'.length)
    (h : ∀ i < m.length, entryWord m i = entryWord m' i) : m = m' := by
  refine List.ext_getElem hlen fun i hi hi' => Field.word_injective ?_
  rw [← entryWord_of_getElem? (List.getElem?_eq_getElem hi), h i hi,
    entryWord_of_getElem? (List.getElem?_eq_getElem hi')]

/-- The words of a pulse buffer show the buffer. -/
theorem pulses_of_pulseAt_eq {ps qs : List Pulse} (hlen : ps.length = qs.length)
    (hmark : ∀ i < ps.length, (pulseAt ps i).mark = (pulseAt qs i).mark)
    (hspace : ∀ i < ps.length, (pulseAt ps i).space = (pulseAt qs i).space) : ps = qs := by
  refine List.ext_getElem hlen fun i hi hi' => ?_
  rw [← pulseAt_of_getElem? (List.getElem?_eq_getElem hi), ← pulseAt_of_getElem? (List.getElem?_eq_getElem hi')]
  exact congrArg₂ Pulse.mk (hmark i hi) (hspace i hi)

/-! Bounds of the invariant in numbers, so that counts fit in a register. -/

theorem configWf_capacities {c : Config} (h : configWf c = true) :
    13 ≤ c.rxCap ∧ c.rxCap ≤ 512 ∧ 9 ≤ c.maxData ∧ c.maxData ≤ 62 :=
  (of_decide_eq_true h).2

theorem State.Inv.msgout_length_le {s : State} (h : s.Inv) : s.msgout.length ≤ s.cfg.maxData + 2 := by
  rcases h.msgShape with hnil | ⟨body, k, hmsg, _, hbody, _⟩ | ⟨f, hmsg, _⟩
  · simp [hnil]
  · simp [hmsg, hbody]
  · simp [hmsg]

/-! Each piece of two states that answer every mapped register alike. -/

/-- Two states meet the invariant, and every register mapped in the first reads alike in both. -/
structure ReadsAlike (s t : State) : Prop where
  left : s.Inv
  right : t.Inv
  regs : ∀ r, regMapped s.cfg r = true → readReg s r = readReg t r

namespace ReadsAlike

variable {s t : State} (h : ReadsAlike s t)
include h

theorem cfg : s.cfg = t.cfg := by
  obtain ⟨_, hscap, _, hsdata⟩ := configWf_capacities h.left.config
  obtain ⟨_, htcap, _, htdata⟩ := configWf_capacities h.right.config
  have hcap : s.cfg.rxCap = t.cfg.rxCap := countWord_inj (by omega) (by omega) (h.regs .pRxCap rfl)
  have hdata : s.cfg.maxData = t.cfg.maxData := countWord_inj (by omega) (by omega) (h.regs .pMaxData rfl)
  obtain ⟨hrestart, hinvalid⟩ := options_of_optionsWord_eq (h.regs .pOptions rfl)
  calc
    s.cfg = ⟨s.cfg.tPsM, s.cfg.tPsS, s.cfg.tHdrTp, s.cfg.tHdrBc, s.cfg.tHdrS, s.cfg.tB1, s.cfg.tB0, s.cfg.tBs,
        s.cfg.gField, s.cfg.gTag, s.cfg.gCksum, s.cfg.rxCap, s.cfg.maxData, s.cfg.packetRestart,
        s.cfg.bcd2decInvalid⟩ := rfl
    _ = t.cfg := by
      rw [hcap, hdata, hrestart, hinvalid, show s.cfg.tPsM = t.cfg.tPsM from h.regs .ttPsM rfl,
        show s.cfg.tPsS = t.cfg.tPsS from h.regs .ttPsS rfl,
        show s.cfg.tHdrTp = t.cfg.tHdrTp from h.regs .ttHdrTp rfl,
        show s.cfg.tHdrBc = t.cfg.tHdrBc from h.regs .ttHdrBc rfl,
        show s.cfg.tHdrS = t.cfg.tHdrS from h.regs .ttHdrS rfl,
        show s.cfg.tB1 = t.cfg.tB1 from h.regs .ttB1 rfl,
        show s.cfg.tB0 = t.cfg.tB0 from h.regs .ttB0 rfl,
        show s.cfg.tBs = t.cfg.tBs from h.regs .ttBs rfl,
        show s.cfg.gField = t.cfg.gField from h.regs .ttGField rfl,
        show s.cfg.gTag = t.cfg.gTag from h.regs .ttGTag rfl,
        show s.cfg.gCksum = t.cfg.gCksum from h.regs .ttGCksum rfl]

theorem txbuf : s.txbuf = t.txbuf := by
  have hs : s.txbuf.length = 13 := (Memory.wf_iff.mp h.left.memory).1
  have ht : t.txbuf.length = 13 := (Memory.wf_iff.mp h.right.memory).1
  have hmapped : ∀ i < s.txbuf.length, i ≤ 12 := by omega
  exact pulses_of_pulseAt_eq (hs.trans ht.symm)
    (fun i hi => h.regs (.txMark i) (regMapped_txMark.mpr (hmapped i hi)))
    (fun i hi => h.regs (.txSpace i) (regMapped_txSpace.mpr (hmapped i hi)))

theorem rxbuf : s.rxbuf = t.rxbuf := by
  have hs := (Memory.wf_iff.mp h.left.memory).2
  have ht := (Memory.wf_iff.mp h.right.memory).2
  exact pulses_of_pulseAt_eq (by rw [hs, ht, h.cfg])
    (fun i hi => h.regs (.rxMark i) (regMapped_rxMark.mpr (hs ▸ hi)))
    (fun i hi => h.regs (.rxSpace i) (regMapped_rxSpace.mpr (hs ▸ hi)))

theorem counts : s.txlen = t.txlen ∧ s.rxlen = t.rxlen ∧ s.rxptr = t.rxptr := by
  have hstx : s.txlen ≤ 13 := h.left.txlenBound
  have httx : t.txlen ≤ 13 := h.right.txlenBound
  obtain ⟨_, hscap, _, _⟩ := configWf_capacities h.left.config
  obtain ⟨_, htcap, _, _⟩ := configWf_capacities h.right.config
  have hsrx := h.left.rxlenBound
  have htrx := h.right.rxlenBound
  have hsptr := h.left.rxptrBound
  have htptr := h.right.rxptrBound
  exact ⟨countWord_inj (by omega) (by omega) (h.regs .txlen rfl),
    countWord_inj (by omega) (by omega) (h.regs .rxlen rfl),
    countWord_inj (by omega) (by omega) (h.regs .rxptr rfl)⟩

theorem cur : s.cur = t.cur := by
  obtain ⟨_, _, _, hsdata⟩ := configWf_capacities h.left.config
  obtain ⟨_, _, _, htdata⟩ := configWf_capacities h.right.config
  have hs := h.left.curBound
  have ht := h.right.curBound
  refine fields_of_entryWord_eq (countWord_inj (by omega) (by omega) (h.regs .curlen rfl)) fun i hi => ?_
  exact h.regs (.cur i) (regMapped_cur.mpr (by omega))

theorem msgout : s.msgout = t.msgout := by
  obtain ⟨_, _, _, hsdata⟩ := configWf_capacities h.left.config
  obtain ⟨_, _, _, htdata⟩ := configWf_capacities h.right.config
  have hs := h.left.msgout_length_le
  have ht := h.right.msgout_length_le
  refine fields_of_entryWord_eq (countWord_inj (by omega) (by omega) (h.regs .msglen rfl)) fun i hi => ?_
  exact h.regs (.msgout i) (regMapped_msgout.mpr (by omega))

end ReadsAlike

/-- Settles O21, piece by piece of the block's state. -/
theorem registerMapShowsTheWholeState : Obligations.RegisterMapShowsTheWholeState := by
  intro s t hs ht hregs
  have h : ReadsAlike s t := ⟨hs, ht, hregs⟩
  obtain ⟨herr, hasm, hemit⟩ := status_of_statusWord_eq (h.regs .status rfl)
  obtain ⟨htxlen, hrxlen, hrxptr⟩ := h.counts
  rw [h.cfg, show s.cmd = t.cmd from h.regs .cmd rfl, show s.arg0 = t.arg0 from h.regs .arg0 rfl,
    show s.arg1 = t.arg1 from h.regs .arg1 rfl, show s.res = t.res from h.regs .res rfl, herr, hemit, hasm,
    show s.ckTx = t.ckTx from h.regs .ckTx rfl, show s.ckRx = t.ckRx from h.regs .ckRx rfl, h.txbuf, htxlen, h.rxbuf,
    hrxlen, hrxptr, h.cur, h.msgout]

end Sys2Proof.Machine

/-! ## The classifier's window and the instances with a meaning (41_classifier.md R160, R163; 44_pulse_codec.md R231) -/

namespace Sys2Proof.Machine

/-- The durations within tolerance of a canonical value are those of its window. -/
theorem within_iff_window {d : Nat} {a : Word} :
    (4 * a.toNat ≤ 5 * d ∧ 5 * d ≤ 6 * a.toNat) ↔ windowLow a ≤ d ∧ d ≤ windowHigh a := by
  unfold windowLow windowHigh
  omega

/-- Up to 4 the window holds the canonical value alone. -/
theorem within_iff_eq_of_le_four {d : Nat} {a : Word} (h : a.toNat ≤ 4) :
    (4 * a.toNat ≤ 5 * d ∧ 5 * d ≤ 6 * a.toNat) ↔ d = a.toNat := by
  omega

/-- Settles O30. -/
theorem classifyWindowIsFourToSixFifths : Obligations.ClassifyWindowIsFourToSixFifths := fun _ _ =>
  ⟨classify_iff.trans within_iff_window, fun h =>
    (classify_iff.trans (within_iff_eq_of_le_four h)).trans BitVec.toNat_eq.symm⟩

/-- Settles O31: below 2^32 the scaled values are the words' numbers. -/
theorem classifyBoundariesOfTheSource : Obligations.ClassifyBoundariesOfTheSource := by
  intro m hm hlt
  have scaled : ∀ n, n ≤ 121 → (BitVec.ofNat 32 (n * m)).toNat = n * m := fun n hn =>
    Nat.mod_eq_of_lt ((Nat.mul_le_mul_right m hn).trans_lt hlt)
  simp only [← Bool.not_eq_true, classify_iff, scaled 120 (by decide), scaled 100 (by decide), scaled 80 (by decide),
    scaled 121 (by decide), scaled 79 (by decide)]
  omega

/-- Two canonical values overlap when some integer is within tolerance of both, as R231 has it (log entry 9). -/
theorem overlaps_eq_false_iff {a b : Word} :
    overlaps a b = false ↔
      ¬ ∃ d : Nat, (4 * a.toNat ≤ 5 * d ∧ 5 * d ≤ 6 * a.toNat) ∧ (4 * b.toNat ≤ 5 * d ∧ 5 * d ≤ 6 * b.toNat) := by
  rw [overlaps, decide_eq_false_iff_not]
  refine not_congr ⟨fun h => ⟨max (windowLow a) (windowLow b), ?_⟩, ?_⟩
  · simp only [within_iff_window]
    omega
  · rintro ⟨d, ha, hb⟩
    rw [within_iff_window] at ha hb
    omega

theorem one_le_toNat_iff {a : Word} : 1 ≤ a.toNat ↔ a ≠ 0 := by bv_omega

/-- The conditions of R231 and R9 one by one. -/
theorem configWf_iff {c : Config} :
    configWf c = true ↔
      timingNonzero c = true ∧ overlaps c.tHdrTp c.tHdrBc = false ∧ overlaps c.tB1 c.tB0 = false ∧
        (∀ g, overlaps (gapMark c g) c.tB1 = false ∧ overlaps (gapMark c g) c.tB0 = false) ∧
        13 ≤ c.rxCap ∧ c.rxCap ≤ 512 ∧ 9 ≤ c.maxData ∧ c.maxData ≤ 62 := by
  have hgaps : (∀ g, overlaps (gapMark c g) c.tB1 = false ∧ overlaps (gapMark c g) c.tB0 = false) ↔
      gapApart c .field = true ∧ gapApart c .tag = true ∧ gapApart c .cksum = true := by
    simp only [gapApart, decide_eq_true_iff]
    exact ⟨fun h => ⟨h .field, h .tag, h .cksum⟩, fun ⟨hf, ht, hc⟩ g => by cases g <;> assumption⟩
  simp only [configWf, timingWf, decide_eq_true_iff, hgaps, and_assoc]

/-- Settles O27: each condition of `configWf_iff` in R231's own terms. -/
theorem wellFormedInstanceIsW1ToW4 : Obligations.WellFormedInstanceIsW1ToW4 := by
  intro c within apart
  have hapart : ∀ a b, apart a b ↔ overlaps a b = false := fun _ _ => overlaps_eq_false_iff.symm
  simp only [configWf_iff, hapart, timingNonzero, decide_eq_true_iff, List.forall_mem_cons, one_le_toNat_iff,
    List.not_mem_nil, false_implies, implies_true, and_true, and_assoc]

end Sys2Proof.Machine

/-! ## Laws of the BCD pair, the kind table and the accumulators (42_bcd.md R182; 30_encoding.md R120, R125;
43_checksum.md R205) -/

namespace Sys2Proof.Machine

/-! The BCD pair (R182). -/

/-- Two packed digits unpack to the number, under either setting of BCD2DEC_INVALID. -/
theorem bcdToDec_packed {n : Nat} (h : n ≤ 99) (invalid : Bcd2decInvalid) :
    bcdToDec invalid (n / 10 * 16 + n % 10) = some n := by
  have hdigits : ¬ ((9 < (n / 10 * 16 + n % 10) / 16 ∨ 9 < (n / 10 * 16 + n % 10) % 16) ∧ invalid = .reject) := by
    omega
  have hvalue : (n / 10 * 16 + n % 10) / 16 * 10 + (n / 10 * 16 + n % 10) % 16 = n := by omega
  rw [bcdToDec_of_lt (by omega), if_neg hdigits, hvalue]

theorem exec_bcd2dec_of_some {s : State} {r : Nat} (h : bcdToDec s.cfg.bcd2decInvalid s.arg0.toNat = some r) :
    exec .bcd2dec s = .next { s with err := .ok, emit := false, res := BitVec.ofNat 32 r } := by
  rw [exec_bcd2dec, h, finishConversion_some]

/-- Settles O34: the sentinel at 100 stays one, and below it the digits packed are unpacked. -/
theorem bcdPairInvertsBelowOneHundred : Obligations.BcdPairInvertsBelowOneHundred := by
  intro s h
  obtain h100 | h99 : s.arg0.toNat = 100 ∨ s.arg0.toNat ≤ 99 := by omega
  · have ht := exec_dec2bcd s
    rw [h100, decToBcd_one_hundred, finishConversion_some] at ht
    exact ⟨_, _, ht, finishConversion_some _ 0xFF, rfl, (if_pos h100).symm, rfl⟩
  · have ht := exec_dec2bcd s
    rw [decToBcd_of_le h99, finishConversion_some] at ht
    have hpacked : (BitVec.ofNat 32 (s.arg0.toNat / 10 * 16 + s.arg0.toNat % 10)).toNat =
        s.arg0.toNat / 10 * 16 + s.arg0.toNat % 10 := by
      rw [BitVec.toNat_ofNat]
      omega
    have hunpacked := bcdToDec_packed h99 s.cfg.bcd2decInvalid
    rw [← hpacked] at hunpacked
    have hne : s.arg0.toNat ≠ 100 := by omega
    refine ⟨_, _, ht, exec_bcd2dec_of_some hunpacked, rfl, ?_, rfl⟩
    rw [if_neg hne]
    simp

/-! The kind table (R120, R125). -/

/-- Settles O40: the columns are the table's by definition. -/
theorem kindTableColumns : Obligations.KindTableColumns :=
  ⟨rfl, rfl, rfl, rfl, rfl, rfl, rfl, fun _ => ⟨rfl, rfl, rfl, rfl, rfl⟩⟩

/-- Settles O44: forwards by the branches of the lookup, backwards by the row of the kind. -/
theorem lookupReadsTheKindTableBackwards : Obligations.LookupReadsTheKindTableBackwards := by
  intro f n v k
  constructor
  · intro h
    unfold lookup at h
    split at h <;> split_ifs at h <;> cases h <;> simp_all [kindFamily, kindWidth]
  · rintro ⟨rfl, rfl, hpacket, hchecksum⟩
    cases k with
    | packet => exact if_pos (hpacket rfl)
    | checksum => exact if_neg (Nat.not_lt.mpr (hchecksum rfl))
    | _ => rfl

/-! Commands fed one after another. -/

theorem runFeeds_cons {i : Instr} {v : Word} {s t : State} (h : exec i (s.setArg0 v) = .next t)
    (rest : List (Instr × Word)) : runFeeds ((i, v) :: rest) s = runFeeds rest t := by
  simp [runFeeds, h]

theorem exec_setArg0_cfg {i : Instr} {v : Word} {s t : State} (h : exec i (s.setArg0 v) = .next t) : t.cfg = s.cfg :=
  (exec_cfg h).trans (s.setArg0_cfg v)

theorem runFeeds_append {fs : List (Instr × Word)} {s t : State} (h : runFeeds fs s = some t)
    (rest : List (Instr × Word)) : runFeeds (fs ++ rest) s = runFeeds rest t := by
  induction fs generalizing s with
  | nil => cases h; rfl
  | cons f fs ih =>
    obtain ⟨u, hu⟩ := exec_completes f.1 (s.setArg0 f.2)
    rw [runFeeds_cons hu] at h
    rw [List.cons_append, runFeeds_cons hu]
    exact ih h

/-! The checksum law (R205). -/

@[simp] theorem State.setArg0_ck (s : State) (v : Word) (sel : CkSel) : (s.setArg0 v).ck sel = s.ck sel := by
  cases sel <;> rfl

@[simp] theorem State.setRes_ck (s : State) (v : Word) (sel : CkSel) : (s.setRes v).ck sel = s.ck sel := by
  cases sel <;> rfl

/-- CK_ACC of each operand adds their sum to the accumulator, mod 2^32. -/
theorem runFeeds_ckAcc (sel : CkSel) (ds : List Word) (s : State) :
    ∃ t, runFeeds (ds.map fun d => (Instr.ckAcc sel, d)) s = some t ∧
      (t.ck sel).toNat = ((s.ck sel).toNat + (ds.map fun d => d.toNat).sum) % 2 ^ 32 := by
  induction ds generalizing s with
  | nil => exact ⟨s, rfl, (Nat.mod_eq_of_lt (s.ck sel).isLt).symm⟩
  | cons d ds ih =>
    have hx := exec_ckAcc sel (s.setArg0 d)
    obtain ⟨t, ht, hck⟩ := ih _
    refine ⟨t, (runFeeds_cons hx _).trans ht, ?_⟩
    rw [hck, State.setCk_ck, State.setArg0_ck, State.setArg0_arg0, BitVec.toNat_ofNat, List.map_cons, List.sum_cons]
    omega

/-- Bit 8 of a word, in numbers. -/
theorem getLsbD_eight {c : Word} : c.getLsbD 8 = true ↔ c.toNat / 256 % 2 = 1 := by
  rw [BitVec.getLsbD, Nat.testBit_eq_decide_div_mod_eq, decide_eq_true_iff]

/-- An operand with bit 8 set passes CK_VALID against a total exactly when it is the law's value of it (R204, R205). -/
theorem ckValid_condition_iff {a c : Word} (hc : c.getLsbD 8 = true) :
    (c.toNat / 512 = 0 ∧ c.toNat % 256 = a.toNat % 256) ↔ c = BitVec.ofNat 32 (a.toNat % 256 + 256) := by
  have hbit := getLsbD_eight.mp hc
  rw [BitVec.toNat_eq, BitVec.toNat_ofNat]
  omega

/-- CK_VALID when RES holds the law's value of the total: of the operands with bit 8 set it accepts RES alone. -/
theorem exec_ckValid_of_res {sel : CkSel} {t : State} {c : Word} (hc : c.getLsbD 8 = true)
    (hres : t.res = BitVec.ofNat 32 ((t.ck sel).toNat % 256 + 256)) :
    exec (.ckValid sel) (t.setArg0 c) = .next ((t.setArg0 c).startCommand.setRes (if c = t.res then 1 else 0)) := by
  simp only [exec_ckValid, State.setArg0_ck, State.setArg0_arg0, ckValid_condition_iff hc, hres]

/-- CK_START and the CK_ACCs leave the sum mod 2^32, and CK_FINAL reduces it: RES holds the law's value of the operands,
which is also that of the total left. -/
theorem runFeeds_checksum (sel : CkSel) (s : State) (p x : Word) (ds : List Word) :
    ∃ t, runFeeds ((Instr.ckStart sel, p) :: ds.map (fun d => (Instr.ckAcc sel, d)) ++ [(Instr.ckFinal sel, x)]) s =
        some t ∧
      t.err = .ok ∧ t.res.toNat = (p.toNat + (ds.map fun d => d.toNat).sum) % 256 + 256 ∧
      t.res = BitVec.ofNat 32 ((t.ck sel).toNat % 256 + 256) := by
  obtain ⟨u, hu, hck⟩ := runFeeds_ckAcc sel ds ((s.setArg0 p).startCommand.setCk sel p)
  rw [State.setCk_ck] at hck
  refine ⟨_, (runFeeds_cons (exec_ckStart sel (s.setArg0 p)) _).trans
    ((runFeeds_append hu _).trans (runFeeds_cons (exec_ckFinal sel (u.setArg0 x)) [])), ?_, ?_, ?_⟩
  · simp
  · rw [State.setRes_res, State.setArg0_ck, hck, BitVec.toNat_ofNat]
    omega
  · rw [State.setRes_res, State.setRes_ck, State.setCk_ck, BitVec.toNat_ofNat]
    congr 1
    omega

/-- Settles O39. -/
theorem checksumLawOfTheDirectCommands : Obligations.ChecksumLawOfTheDirectCommands := by
  intro sel s p x ds
  obtain ⟨t, ht, herr, hvalue, hres⟩ := runFeeds_checksum sel s p x ds
  exact ⟨t, ht, herr, hvalue, fun c hc => exec_ckValid_of_res hc hres⟩

end Sys2Proof.Machine

/-! ## The decoder, pulse by pulse: what it reads, its failures, and its second form (44_pulse_codec.md R252,
R253, R255) -/

namespace Sys2Proof.Machine

/-! The pulses a decode reads (R252). -/

/-- Two buffers that agree from `start` to RXLEN hold the same valid pulses. -/
theorem validPulses_congr {rx rx' : List Pulse} {rxlen start : Nat}
    (h : ∀ i, start ≤ i → i < rxlen → rx[i]? = rx'[i]?) : (rx.take rxlen).drop start = (rx'.take rxlen).drop start := by
  apply List.ext_getElem?
  intro j
  simp only [List.getElem?_drop, List.getElem?_take]
  split_ifs with hj
  · exact h _ (Nat.le_add_right start j) hj
  · rfl

/-- Settles O47: the decoder sees RXBUF through its valid pulses alone. -/
theorem decodeReadsOnlyTheValidPulses : Obligations.DecodeReadsOnlyTheValidPulses := by
  intro c rx rx' rxlen start _ _ h
  rw [decodeField, decodeField, validPulses_congr h]

/-! The end of a decode, once its bits are read. -/

/-- What the bit loop leaves, looked up; or its failure (R252, steps 4 and 5). -/
def finishDecode (f : Family) : Except ErrCode BitRun → Except ErrCode Decoded
  | .error code => .error code
  | .ok r => acceptField f r

theorem acceptField_of_spaceFail {f : Family} {r : BitRun} (h : r.spaceFail = true) :
    acceptField f r = .error .space := by
  simp [acceptField, h]

theorem acceptField_of_lookup_none {f : Family} {r : BitRun} (h : r.spaceFail = false)
    (hk : lookup f r.count r.value = none) : acceptField f r = .error .fieldKind := by
  simp [acceptField, h, hk]

theorem acceptField_of_lookup {f : Family} {r : BitRun} {k : Kind} (h : r.spaceFail = false)
    (hk : lookup f r.count r.value = some k) : acceptField f r = .ok ⟨k, r.value, r.next⟩ := by
  simp [acceptField, h, hk]

/-! The branches of a decode, by its first two valid pulses. -/

section Branches

variable {c : Config} {rx : List Pulse} {rxlen start : Nat}

theorem decodeField_of_lt (h : rxlen < start + 2) : decodeField c rx rxlen start = .error .trunc := if_pos h

variable {p q : Pulse} {qs : List Pulse} (hps : (rx.take rxlen).drop start = p :: q :: qs)
include hps

/-- Two valid pulses from `start` on lie below RXLEN. -/
theorem start_add_two_le : start + 2 ≤ rxlen := by
  have hlen := congrArg List.length hps
  simp only [List.length_drop, List.length_take, List.length_cons] at hlen
  omega

theorem decodeField_not_presync (hp : isPresync c p = false) : decodeField c rx rxlen start = .error .presync := by
  have hle := start_add_two_le hps
  simp [decodeField, hps, hp, Nat.not_lt.mpr hle]

theorem decodeField_not_header (hp : isPresync c p = true) (hq : headerFamily c q = none) :
    decodeField c rx rxlen start = .error .header := by
  have hle := start_add_two_le hps
  simp [decodeField, hps, hp, hq, Nat.not_lt.mpr hle]

theorem decodeField_of_header {f : Family} (hp : isPresync c p = true) (hq : headerFamily c q = some f) :
    decodeField c rx rxlen start = finishDecode f (decodeBits c rxlen qs (start + 2) 0 0 false) := by
  have hle := start_add_two_le hps
  simp only [decodeField, hps, hp, hq, if_neg (Nat.not_lt.mpr hle), if_true]
  cases decodeBits c rxlen qs (start + 2) 0 0 false <;> rfl

end Branches

/-! The bit loop, one pulse at a time (R252, step 3). -/

/-- A pulse that is a bit: no sentinel, no gap, and with the mark of a bit. -/
def IsBit (c : Config) (q : Pulse) : Prop := isSentinel q = false ∧ isGap c q = false ∧ (bitOf c q).isSome = true

section BitLoop

variable {c : Config} {rxlen : Nat} {q : Pulse} (qs : List Pulse) (i v n : Nat) (sf : Bool)

theorem decodeBits_sentinel (hq : isSentinel q = true) :
    decodeBits c rxlen (q :: qs) i v n sf = .ok ⟨i + 1, v, n, sf⟩ := by
  simp [decodeBits_cons, hq]

theorem decodeBits_gap (hs : isSentinel q = false) (hg : isGap c q = true) :
    decodeBits c rxlen (q :: qs) i v n sf = .ok ⟨if startsWithSentinel qs then i + 2 else i + 1, v, n, sf⟩ := by
  simp [decodeBits_cons, hs, hg]

theorem decodeBits_tenth (hs : isSentinel q = false) (hg : isGap c q = false) :
    decodeBits c rxlen (q :: qs) i v 9 sf = .error .length := by
  simp [decodeBits_cons, hs, hg]

theorem decodeBits_no_bit {n : Nat} (hn : n < 9) (hs : isSentinel q = false) (hg : isGap c q = false)
    (hb : bitOf c q = none) : decodeBits c rxlen (q :: qs) i v n sf = .error .bit := by
  simp [decodeBits_cons, hs, hg, hb, hn.ne]

theorem decodeBits_bit {n b : Nat} (hn : n < 9) (hs : isSentinel q = false) (hg : isGap c q = false)
    (hb : bitOf c q = some b) :
    decodeBits c rxlen (q :: qs) i v n sf =
      decodeBits c rxlen qs (i + 1) (v <<< 1 ||| b) (n + 1) (sf || !classify q.space c.tBs) := by
  simp [decodeBits_cons, hs, hg, hb, hn.ne]

end BitLoop

/-- Up to nine bits are read one by one: whatever follows them is met with their count, and with their mismatches of the
space on record. -/
theorem decodeBits_append {c : Config} {rxlen : Nat} {bits : List Pulse} (hbits : ∀ b ∈ bits, IsBit c b)
    (tail : List Pulse) (i v n : Nat) (sf : Bool) (hn : n + bits.length ≤ 9) :
    ∃ v', decodeBits c rxlen (bits ++ tail) i v n sf =
      decodeBits c rxlen tail (i + bits.length) v' (n + bits.length)
        (sf || bits.any fun b => !classify b.space c.tBs) := by
  induction bits generalizing i v n sf with
  | nil => exact ⟨v, by simp⟩
  | cons q bits ih =>
    obtain ⟨hq, hbits⟩ := List.forall_mem_cons.mp hbits
    obtain ⟨hs, hg, hsome⟩ := hq
    obtain ⟨b, hb⟩ := Option.isSome_iff_exists.mp hsome
    rw [List.length_cons] at hn
    obtain ⟨v', hv'⟩ := ih hbits (i + 1) (v <<< 1 ||| b) (n + 1) (sf || !classify q.space c.tBs) (by omega)
    refine ⟨v', ?_⟩
    rw [List.cons_append, decodeBits_bit _ _ _ _ (by omega) hs hg hb, hv', List.length_cons, List.any_cons,
      Bool.or_assoc, Nat.add_right_comm, Nat.add_right_comm n]
    rfl

/-- Bits ended by a sentinel, by a gap or by the end of the valid pulses end the loop without error. -/
theorem decodeBits_ended {c : Config} {rxlen : Nat} {tail : List Pulse}
    (h : tail = [] ∨ ∃ q rest, tail = q :: rest ∧ (isSentinel q = true ∨ isGap c q = true))
    (i v n : Nat) (sf : Bool) : ∃ next, decodeBits c rxlen tail i v n sf = .ok ⟨next, v, n, sf⟩ := by
  rcases h with rfl | ⟨q, rest, rfl, hq⟩
  · exact ⟨rxlen, rfl⟩
  · cases hs : isSentinel q with
    | true => exact ⟨_, decodeBits_sentinel rest i v n sf hs⟩
    | false => exact ⟨_, decodeBits_gap rest i v n sf hs (hq.resolve_left (by simp [hs]))⟩

/-- A decode of a pre-sync, a header and up to nine bits comes down to the pulses after the bits. -/
theorem decodeField_of_bits {c : Config} {rx bits tail : List Pulse} {rxlen start : Nat} {p q : Pulse} {f : Family}
    (hps : (rx.take rxlen).drop start = p :: q :: (bits ++ tail)) (hp : isPresync c p = true)
    (hq : headerFamily c q = some f) (hbits : ∀ b ∈ bits, IsBit c b) (hlen : bits.length ≤ 9) :
    ∃ v, decodeField c rx rxlen start =
      finishDecode f (decodeBits c rxlen tail (start + 2 + bits.length) v bits.length
        (bits.any fun b => !classify b.space c.tBs)) := by
  obtain ⟨v, hv⟩ := decodeBits_append (rxlen := rxlen) hbits tail (start + 2) 0 0 false (by omega)
  refine ⟨v, ?_⟩
  rw [decodeField_of_header hps hp hq, hv, Nat.zero_add, Bool.false_or]

/-- The valid pulses that lie behind others in RXBUF, RXLEN being their end. -/
theorem validPulses_append (before ps after : List Pulse) :
    ((before ++ ps ++ after).take (before.length + ps.length)).drop before.length = ps := by
  rw [← List.length_append, List.take_left, List.drop_left]

/-- Settles O48: the branches before the bits, and `decodeField_of_bits` up to what follows them. -/
theorem decodeFailuresInOrder : Obligations.DecodeFailuresInOrder := by
  refine ⟨fun c rx rxlen start => decodeField_of_lt, fun c p h before bits tail after => ?_⟩
  intro result isBit ended
  have hps : ((before ++ [p, h] ++ bits ++ tail ++ after).take (before.length + 2 + bits.length + tail.length)).drop
      before.length = p :: h :: (bits ++ tail) := by
    have hvalid := validPulses_append before (p :: h :: (bits ++ tail)) after
    simpa [Nat.add_assoc, Nat.add_comm, Nat.add_left_comm] using hvalid
  refine ⟨decodeField_not_presync hps, decodeField_not_header hps, fun f hp hh hbits => ?_⟩
  have hresult : bits.length ≤ 9 → ∃ v, result = _ := decodeField_of_bits hps hp hh hbits
  have hclosed (hle : bits.length ≤ 9) (hended : ended) : ∃ next v, result =
      acceptField f ⟨next, v, bits.length, bits.any fun b => !classify b.space c.tBs⟩ := by
    obtain ⟨v, hv⟩ := hresult hle
    obtain ⟨next, hnext⟩ := decodeBits_ended (rxlen := before.length + 2 + bits.length + tail.length) hended
      (before.length + 2 + bits.length) v bits.length (bits.any fun b => !classify b.space c.tBs)
    exact ⟨next, v, by rw [hv, hnext]; rfl⟩
  refine ⟨fun q rest htail hs hg => ⟨fun hlt hb => ?_, fun hnine => ?_⟩, fun hle hended hbad => ?_,
    fun hle hended hgood hnone => ?_⟩
  · obtain ⟨v, hv⟩ := hresult hlt.le
    rw [hv, htail, decodeBits_no_bit _ _ _ _ hlt hs hg hb]
    rfl
  · obtain ⟨v, hv⟩ := hresult hnine.le
    rw [hv, htail, hnine, decodeBits_tenth _ _ _ _ hs hg]
    rfl
  · obtain ⟨next, v, hv⟩ := hclosed hle hended
    rw [hv]
    exact acceptField_of_spaceFail (by simpa using hbad)
  · obtain ⟨next, v, hv⟩ := hclosed hle hended
    rw [hv]
    exact acceptField_of_lookup_none (by simpa using hgood) (hnone v)

/-! The per-pulse machine (R255). -/

/-- Pulse i of RXBUF as the machine reads it, when it is the first of the valid pulses from i on. -/
theorem rxAt_of_validPulses {rx qs : List Pulse} {rxlen i : Nat} {q : Pulse} (h : (rx.take rxlen).drop i = q :: qs) :
    i < rxlen ∧ rxAt rx i = q ∧ (rx.take rxlen).drop (i + 1) = qs := by
  have hq : ((rx.take rxlen).drop i)[0]? = some q := by rw [h]; rfl
  rw [List.getElem?_drop, List.getElem?_take, Nat.add_zero] at hq
  split_ifs at hq with hi
  refine ⟨hi, by simp [rxAt, hq], ?_⟩
  rw [← List.drop_drop, h]
  rfl

/-- The machine's test for a sentinel behind a gap is the decoder's. -/
theorem sentinel_behind_iff {rx : List Pulse} {rxlen i : Nat} (hlen : rxlen ≤ rx.length) :
    (i < rxlen ∧ isSentinel (rxAt rx i) = true) ↔ startsWithSentinel ((rx.take rxlen).drop i) = true := by
  cases h : (rx.take rxlen).drop i with
  | nil =>
    have hi := List.drop_eq_nil_iff.mp h
    rw [List.length_take, Nat.min_eq_left hlen] at hi
    simp [startsWithSentinel, Nat.not_lt.mpr hi]
  | cons q qs =>
    obtain ⟨hi, hq, _⟩ := rxAt_of_validPulses h
    simp [startsWithSentinel, hi, hq]

/-- The state DONE halts with the end of a decode. -/
theorem runDecodeMachine_done (c : Config) (rx : List Pulse) (rxlen fuel i next : Nat) (f : Family) (v n : Nat)
    (sf : Bool) :
    runDecodeMachine c rx rxlen (fuel + 1) ⟨.done, i, f, v, n, sf, next⟩ = some (acceptField f ⟨next, v, n, sf⟩) := by
  cases sf with
  | true => rfl
  | false =>
    simp only [runDecodeMachine, decodeTransition, acceptField]
    cases lookup f n v <;> rfl

/-- From the state BITS, with n bits read, 11 - n transitions finish as the bit loop does: one for each bit up to the
ninth, one for the terminator and one for the state DONE. -/
theorem runDecodeMachine_bits {c : Config} {rx : List Pulse} {rxlen : Nat} (hlen : rxlen ≤ rx.length) {qs : List Pulse}
    {i : Nat} (hqs : (rx.take rxlen).drop i = qs) (hi : i ≤ rxlen) (f : Family) (v : Nat) {n : Nat} (hn : n ≤ 9)
    (sf : Bool) (next : Nat) :
    runDecodeMachine c rx rxlen (9 - n + 2) ⟨.bits, i, f, v, n, sf, next⟩ =
      some (finishDecode f (decodeBits c rxlen qs i v n sf)) := by
  induction qs generalizing i v n sf next with
  | nil =>
    have hend := List.drop_eq_nil_iff.mp hqs
    rw [List.length_take, Nat.min_eq_left hlen] at hend
    have hi : i = rxlen := by omega
    rw [runDecodeMachine]
    simp only [decodeTransition, hi, if_true]
    exact runDecodeMachine_done ..
  | cons q qs ih =>
    obtain ⟨hlt, hq, hqs'⟩ := rxAt_of_validPulses hqs
    rw [runDecodeMachine]
    simp only [decodeTransition, hq, if_neg hlt.ne, sentinel_behind_iff hlen, hqs']
    cases hs : isSentinel q with
    | true =>
      rw [decodeBits_sentinel _ _ _ _ _ hs]
      exact runDecodeMachine_done ..
    | false =>
      cases hg : isGap c q with
      | true =>
        rw [decodeBits_gap _ _ _ _ _ hs hg]
        exact runDecodeMachine_done ..
      | false =>
        obtain rfl | hn9 : n = 9 ∨ n < 9 := by omega
        · rw [decodeBits_tenth _ _ _ _ hs hg]
          rfl
        · cases hb : bitOf c q with
          | none =>
            rw [decodeBits_no_bit _ _ _ _ hn9 hs hg hb]
            rw [if_neg hn9.ne]
            rfl
          | some b =>
            rw [decodeBits_bit _ _ _ _ hn9 hs hg hb, ← ih hqs' hlt _ hn9 _ next]
            have hfuel : 9 - n = 9 - (n + 1) + 1 := by omega
            simp [hn9.ne, hfuel]

theorem exists_two_validPulses {rx : List Pulse} {rxlen start : Nat} (hlen : rxlen ≤ rx.length)
    (h : start + 2 ≤ rxlen) : ∃ p q qs, (rx.take rxlen).drop start = p :: q :: qs := by
  have htwo : 2 ≤ ((rx.take rxlen).drop start).length := by
    rw [List.length_drop, List.length_take]
    omega
  match hps : (rx.take rxlen).drop start with
  | [] => simp [hps] at htwo
  | [p] => simp [hps] at htwo
  | p :: q :: qs => exact ⟨p, q, qs, rfl⟩

/-- Settles O46: the states PRESYNC and HEADER are the branches of the decoder on its first two pulses, and from BITS on
`runDecodeMachine_bits` says the rest. -/
theorem decoderIsThePulseMachine : Obligations.DecoderIsThePulseMachine := by
  intro c rx rxlen start hlen
  rw [decodeMachineStart, runDecodeMachine]
  obtain hlt | hle : rxlen < start + 2 ∨ start + 2 ≤ rxlen := by omega
  · have hend : start + 1 ≥ rxlen := by omega
    simp only [decodeTransition, if_pos hend, decodeField_of_lt hlt]
  · obtain ⟨p, q, qs, hps⟩ := exists_two_validPulses hlen hle
    obtain ⟨_, hp, hps'⟩ := rxAt_of_validPulses hps
    obtain ⟨_, hq, hqs⟩ := rxAt_of_validPulses hps'
    have hend : ¬ start + 1 ≥ rxlen := by omega
    simp only [decodeTransition, if_neg hend, hp]
    cases hpre : isPresync c p with
    | false =>
      rw [decodeField_not_presync hps hpre]
      rfl
    | true =>
      change runDecodeMachine c rx rxlen 12 _ = _
      rw [runDecodeMachine]
      simp only [decodeTransition, hq]
      cases hhdr : headerFamily c q with
      | none => rw [decodeField_not_header hps hpre hhdr]
      | some f =>
        rw [decodeField_of_header hps hpre hhdr]
        exact runDecodeMachine_bits hlen hqs hle f 0 (by omega) false 0

end Sys2Proof.Machine

/-! ## Trains decode to their fields: the round trip, noise within tolerance, and one train after another
(44_pulse_codec.md R231, R262 to R264) -/

namespace Sys2Proof.Machine

/-- A received pulse within tolerance of the one sent (R264). -/
def Near (q p : Pulse) : Prop := classify q.mark p.mark = true ∧ classify q.space p.space = true

theorem near_self (p : Pulse) : Near p p := ⟨classify_self p.mark, classify_self p.space⟩

theorem forall₂_near_self (ps : List Pulse) : List.Forall₂ Near ps ps := List.forall₂_same.mpr fun p _ => near_self p

/-- Only a sentinel is near a sentinel, since only 0 classifies against 0. -/
theorem isSentinel_of_near_zeroPulse {q : Pulse} (h : Near q zeroPulse) : isSentinel q = true := by
  simp [isSentinel, classify_zero_right h.1, classify_zero_right h.2]

theorem isSentinel_eq_false {q p : Pulse} (h : Near q p) (hp : p.mark ≠ 0) : isSentinel q = false := by
  have hq := classify_ne_zero h.1 hp
  rw [isSentinel, decide_eq_false hq, Bool.false_and]

/-! What a well-formed instance gives (R231). -/

section WellFormed

variable {c : Config} (hc : configWf c = true)
include hc

theorem bitPulse_mark_ne_zero (b : Bool) : (bitPulse c b).mark ≠ 0 := by
  have hnonzero := (configWf_iff.mp hc).1
  obtain ⟨_, _, _, _, _, hB1, hB0, _⟩ := of_decide_eq_true hnonzero
  cases b <;> assumption

theorem gapMark_ne_zero (g : GapClass) : gapMark c g ≠ 0 := by
  have hnonzero := (configWf_iff.mp hc).1
  obtain ⟨_, _, _, _, _, _, _, _, hfield, htag, hcksum⟩ := of_decide_eq_true hnonzero
  have htotal : 2 ≤ (gapTotal c g).toNat := by cases g <;> assumption
  rw [← one_le_toNat_iff, gapMark_toNat]
  omega

/-- W2: a header near a family's canonical one selects that family. -/
theorem headerFamily_of_near {q : Pulse} {f : Family} (h : Near q ⟨hdr c f, c.tHdrS⟩) :
    headerFamily c q = some f := by
  have hapart := (configWf_iff.mp hc).2.1
  cases f with
  | tp => simp only [headerFamily, if_pos (show classify q.mark c.tHdrTp = true from h.1)]
  | bc =>
    have hbc : classify q.mark c.tHdrBc = true := h.1
    have htp : classify q.mark c.tHdrTp = false := by
      by_contra htp
      simp [not_overlaps_classify hapart (by simpa using htp)] at hbc
    simp [headerFamily, htp, hbc]

/-- W4: a pulse near a bit's has no gap's mark. -/
theorem isGap_eq_false_of_near_bit {q : Pulse} {b : Bool} (h : Near q (bitPulse c b)) : isGap c q = false := by
  have hapart := (configWf_iff.mp hc).2.2.2.1
  have hmark : ∀ g, classify q.mark (gapMark c g) = false := by
    intro g
    by_contra hg
    have hg : classify q.mark (gapMark c g) = true := by simpa using hg
    have hbit := h.1
    cases b with
    | true => simp [bitPulse, not_overlaps_classify (hapart g).1 hg] at hbit
    | false => simp [bitPulse, not_overlaps_classify (hapart g).2 hg] at hbit
  simp [isGap, isGapOf, hmark]

/-- W3: a pulse near a bit's stands for that bit. -/
theorem bitOf_of_near_bit {q : Pulse} {b : Bool} (h : Near q (bitPulse c b)) : bitOf c q = some b.toNat := by
  have hapart := (configWf_iff.mp hc).2.2.1
  cases b with
  | true =>
    have hone : classify q.mark c.tB1 = true := h.1
    simp [bitOf, hone]
  | false =>
    have hzero : classify q.mark c.tB0 = true := h.1
    have hone : classify q.mark c.tB1 = false := by
      by_contra hone
      simp [not_overlaps_classify hapart (by simpa using hone)] at hzero
    simp [bitOf, hone, hzero]

/-- A pulse near a bit's is read as that bit, with no mismatch of the space. -/
theorem decodeBits_near_bit {q : Pulse} {b : Bool} (h : Near q (bitPulse c b)) {n : Nat} (hn : n < 9) (rxlen : Nat)
    (qs : List Pulse) (i v : Nat) :
    decodeBits c rxlen (q :: qs) i v n false = decodeBits c rxlen qs (i + 1) (2 * v + b.toNat) (n + 1) false := by
  have hspace : classify q.space c.tBs = true := h.2
  have hvalue : v <<< 1 ||| b.toNat = 2 * v + b.toNat := by
    rw [← Nat.shiftLeft_add_eq_or_of_lt (by cases b <;> decide), Nat.shiftLeft_eq]
    omega
  rw [decodeBits_bit _ _ _ _ hn (isSentinel_eq_false h (bitPulse_mark_ne_zero hc b)) (isGap_eq_false_of_near_bit hc h)
    (bitOf_of_near_bit hc h), hspace, hvalue]
  rfl

/-- A pulse near a gap's ends the bits, with the sentinel behind it if there is one. -/
theorem decodeBits_near_gap {q : Pulse} {g : GapClass} (h : Near q ⟨gapMark c g, gapSpace c g⟩) (rxlen : Nat)
    (qs : List Pulse) (i v n : Nat) :
    decodeBits c rxlen (q :: qs) i v n false =
      .ok ⟨if startsWithSentinel qs then i + 2 else i + 1, v, n, false⟩ := by
  have hgap : isGapOf c q g = true := by simpa [isGapOf] using And.intro h.1 h.2
  refine decodeBits_gap _ _ _ _ _ (isSentinel_eq_false h (gapMark_ne_zero hc g)) ?_
  cases g <;> simp [isGap, hgap]

end WellFormed

/-! The bits of a value (R240). -/

theorem bitPulses_succ (c : Config) (w v : Nat) :
    bitPulses c (w + 1) v = bitPulse c (v.testBit w) :: bitPulses c w v := by
  rw [bitPulses, List.range_succ_eq_map, List.map_cons, List.map_map]
  refine congrArg₂ List.cons rfl (List.map_congr_left fun j _ => ?_)
  have hj : w + 1 - 1 - (j + 1) = w - 1 - j := by omega
  simp only [Function.comp_apply, Nat.succ_eq_add_one, hj]

/-- The top bit of w + 1, and the w bits below it. -/
theorem mod_two_pow_succ_eq (v w : Nat) : v % 2 ^ (w + 1) = (v.testBit w).toNat * 2 ^ w + v % 2 ^ w := by
  rw [Nat.mod_pow_succ, Nat.toNat_testBit, Nat.add_comm, Nat.mul_comm]

/-- Pulses near the bits of a value are read as its w bits, most significant first (R92). -/
theorem decodeBits_near_bitPulses {c : Config} (hc : configWf c = true) (rxlen w v : Nat) {qs : List Pulse}
    (h : List.Forall₂ Near qs (bitPulses c w v)) (tail : List Pulse) (i a n : Nat) (hn : n + w ≤ 9) :
    decodeBits c rxlen (qs ++ tail) i a n false =
      decodeBits c rxlen tail (i + w) (a * 2 ^ w + v % 2 ^ w) (n + w) false := by
  induction w generalizing qs i a n with
  | zero =>
    obtain rfl := List.forall₂_nil_right_iff.mp h
    simp [Nat.mod_one]
  | succ w ih =>
    rw [bitPulses_succ, List.forall₂_cons_right_iff] at h
    obtain ⟨q, qs, hq, hqs, rfl⟩ := h
    rw [List.cons_append, decodeBits_near_bit hc hq (by omega), ih hqs _ _ _ (by omega), mod_two_pow_succ_eq]
    congr 1
    · omega
    · ring
    · omega

/-! A train within tolerance, wherever it lies in RXBUF. -/

/-- The pulses after the bits of a train: its gap, and a sentinel for a terminating kind. -/
theorem decodeBits_near_end {c : Config} (hc : configWf c = true) {k : Kind} {qs rest : List Pulse}
    (h : List.Forall₂ Near qs
      (⟨gapMark c (kindGap k), gapSpace c (kindGap k)⟩ :: if kindTerminating k then [zeroPulse] else []))
    (hrest : startsWithSentinel rest = false) (rxlen i v n : Nat) :
    decodeBits c rxlen (qs ++ rest) i v n false = .ok ⟨i + qs.length, v, n, false⟩ := by
  obtain ⟨q, qs, hq, hqs, rfl⟩ := List.forall₂_cons_right_iff.mp h
  rw [List.cons_append, decodeBits_near_gap hc hq]
  cases ht : kindTerminating k with
  | false =>
    simp only [ht] at hqs
    obtain rfl := List.forall₂_nil_right_iff.mp hqs
    simp [hrest]
  | true =>
    simp only [ht, if_true] at hqs
    obtain ⟨s, qs', hs, hqs', rfl⟩ := List.forall₂_cons_right_iff.mp hqs
    obtain rfl := List.forall₂_nil_right_iff.mp hqs'
    simp [startsWithSentinel, isSentinel_of_near_zeroPulse hs]

theorem lookup_of_legal {k : Kind} {v : Nat} (h : legal k v = true) :
    lookup (kindFamily k) (kindWidth k) v = some k := by
  obtain ⟨hlow, hhigh⟩ := legal_iff.mp h
  refine (lookupReadsTheKindTableBackwards _ _ _ _).mpr ⟨rfl, rfl, ?_, ?_⟩
  · rintro rfl
    exact Nat.lt_succ_of_le hhigh
  · rintro rfl
    exact hlow

theorem kindWidth_le (k : Kind) : kindWidth k ≤ 9 := by cases k <;> decide

/-- A train near that of a legal field decodes to the field, from wherever in RXBUF it starts, if no sentinel follows
it. -/
theorem decodeField_near {c : Config} (hc : configWf c = true) {k : Kind} {v : Nat} (hl : legal k v = true)
    {rx train rest : List Pulse} {rxlen start : Nat} (hps : (rx.take rxlen).drop start = train ++ rest)
    (htrain : List.Forall₂ Near train (encodeField c k v)) (hrest : startsWithSentinel rest = false) :
    decodeField c rx rxlen start = .ok ⟨k, v, start + train.length⟩ := by
  rw [encodeField_eq_cons] at htrain
  obtain ⟨p, train₁, hp, htrain₁, rfl⟩ := List.forall₂_cons_right_iff.mp htrain
  obtain ⟨q, train₂, hq, htrain₂, rfl⟩ := List.forall₂_cons_right_iff.mp htrain₁
  have hbits := List.forall₂_take_append _ _ _ htrain₂
  have hending := List.forall₂_drop_append _ _ _ htrain₂
  rw [bitPulses_length] at hbits hending
  have hpre : isPresync c p = true := by simpa [isPresync] using And.intro hp.1 hp.2
  have hwidth : kindWidth k ≤ train₂.length := by
    rw [htrain₂.length_eq, List.length_append, bitPulses_length]
    exact Nat.le_add_right _ _
  have hnine := kindWidth_le k
  rw [← List.take_append_drop (kindWidth k) train₂, List.cons_append, List.cons_append, List.append_assoc] at hps
  rw [decodeField_of_header hps hpre (headerFamily_of_near hc hq),
    decodeBits_near_bitPulses hc rxlen _ _ hbits _ _ _ _ (by omega),
    decodeBits_near_end hc hending hrest, Nat.mod_eq_of_lt (legal_lt_width hl), Nat.zero_mul, Nat.zero_add,
    Nat.zero_add]
  refine (acceptField_of_lookup rfl (lookup_of_legal hl)).trans ?_
  have hnext : start + 2 + kindWidth k + (train₂.drop (kindWidth k)).length = start + (p :: q :: train₂).length := by
    simp only [List.length_drop, List.length_cons]
    omega
  rw [hnext]

/-! The statements. -/

/-- Settles O51: the train alone in its buffer. -/
theorem noisyTrainDecodesToTheField : Obligations.NoisyTrainDecodesToTheField := by
  intro c k v train hc hl hnear
  have hps : (train.take train.length).drop 0 = train ++ [] := by simp
  rw [decodeField_near hc hl hps hnear rfl, Nat.zero_add]

/-- Settles O52: the train as sent, after any pulses and before `rest`. -/
theorem concatenatedTrainsDecodeInTurn : Obligations.ConcatenatedTrainsDecodeInTurn := by
  intro c k v before rest hc hl hrest
  refine decodeField_near hc hl ?_ (forall₂_near_self _) hrest
  rw [Nat.add_assoc, ← List.length_append, List.append_assoc, ← List.length_append, List.take_length, List.drop_left]

/-- ENC_FIELD leaves the train of its field at the front of TXBUF, TXLEN being its length (R245). -/
theorem exec_encField_train {k : Kind} {s t : State} (hl : legal k s.arg0.toNat = true)
    (ht : exec (.encField (kindCode k)) s = .next t) :
    t.txlen = (encodeField s.cfg k s.arg0.toNat).length ∧
      t.txbuf.take t.txlen = encodeField s.cfg k s.arg0.toNat := by
  obtain rfl : s.startCommand.loadTrain (encodeField s.cfg k s.arg0.toNat) = t := by
    simpa using (execEncField_legal hl).symm.trans ht
  exact ⟨rfl, List.take_left⟩

/-- Settles O50: RXBUF holds the train of TXBUF as its valid pulses. -/
theorem encodedFieldDecodesToItself : Obligations.EncodedFieldDecodesToItself := by
  intro k s t u hc hl ht hcfg hrxlen hrxptr hbuf
  obtain ⟨htxlen, htxbuf⟩ := exec_encField_train hl ht
  have hdecode : decodeField u.cfg u.rxbuf u.rxlen u.rxptr = .ok ⟨k, s.arg0.toNat, t.txlen⟩ := by
    rw [hcfg, hrxlen, hrxptr]
    have hps : (u.rxbuf.take t.txlen).drop 0 = encodeField s.cfg k s.arg0.toNat ++ [] := by
      rw [hbuf, htxbuf, List.drop_zero, List.append_nil]
    rw [decodeField_near hc hl hps (forall₂_near_self _) rfl, Nat.zero_add, htxlen]
  rw [← fieldWord_eq (legal_lt_512 hl)]
  -- elaborated first on its own: matched against the goal it would unfold the decode
  have hexec := execDecField_ok hdecode
  exact hexec

end Sys2Proof.Machine

/-! ## A message fed to the assembler, and a message received (45_assembler.md R290; 44_pulse_codec.md R262) -/

namespace Sys2Proof.Machine

/-! A message in progress, field by field. -/

/-- The assembler is inside a message and holds the fields `m`, CK_RX being their sum mod 256 (R38, R290). -/
structure Collecting (s : State) (m : List Field) : Prop where
  asm : s.asm = .inMessage
  cur : s.cur = m
  total : RunningTotal s

/-- Feeding a PACKET to an idle assembler opens a message. -/
theorem exec_asmFeed_packet {s : State} (hs : s.asm = .idle) (hl : legal .packet s.arg0.toNat = true) :
    ∃ t, exec (.asmFeed (kindCode .packet)) s = .next t ∧ Collecting t [mkField .packet s.arg0.toNat] ∧
      t.msgout = s.msgout :=
  ⟨_, execAsmFeed_legal hl (asmTransition_idle_packet (s := s.startCommand) hs s.arg0),
    ⟨rfl, rfl, runningTotal_open (s := s.startCommand) hl⟩, rfl⟩

/-- Feeding a DATA extends the message while there is room for it. -/
theorem exec_asmFeed_data {s : State} {m : List Field} (h : Collecting s m) (hl : legal .data s.arg0.toNat = true)
    (hlen : m.length ≤ s.cfg.maxData) :
    ∃ t, exec (.asmFeed (kindCode .data)) s = .next t ∧ Collecting t (m ++ [mkField .data s.arg0.toNat]) ∧
      t.msgout = s.msgout := by
  have hroom : s.startCommand.cur.length ≠ s.startCommand.cfg.maxData + 1 := by
    rw [State.startCommand_cur, State.startCommand_cfg, h.cur]
    omega
  have ht := asmTransition_inMessage_data (s := s.startCommand) h.asm hroom s.arg0
  have htotal := asmTransition_runningTotal (s := s.startCommand) h.total hl
  rw [ht] at htotal
  exact ⟨_, execAsmFeed_legal hl ht, ⟨h.asm, by simp [h.cur], htotal⟩, rfl⟩

/-- A legal CHECKSUM has the low byte of CK_RX exactly when it is the law's value of the fields held (R204, R205). -/
theorem checksum_matches_iff {s : State} {m : List Field} (h : Collecting s m) {v : Word}
    (hl : legal .checksum v.toNat = true) :
    v.toNat % 256 = s.ckRx.toNat % 256 ↔ v.toNat = fieldSum m % 256 + 256 := by
  have htotal := h.total h.asm
  rw [h.cur] at htotal
  obtain ⟨hlow, hhigh⟩ := legal_iff.mp hl
  simp only [kindLow, kindHigh] at hlow hhigh
  omega

/-- Feeding the CHECKSUM of the fields held delivers the message. -/
theorem exec_asmFeed_checksum {s : State} {m : List Field} (h : Collecting s m)
    (hl : legal .checksum s.arg0.toNat = true) (hv : s.arg0.toNat = fieldSum m % 256 + 256) :
    ∃ t, exec (.asmFeed (kindCode .checksum)) s = .next t ∧ t.err = .ok ∧ t.emit = true ∧ t.asm = .idle ∧ t.cur = [] ∧
      t.msgout = m ++ [mkField .checksum s.arg0.toNat] := by
  have hck := (checksum_matches_iff h hl).mpr hv
  refine ⟨_, execAsmFeed_legal hl (asmTransition_inMessage_checksum (s := s.startCommand) h.asm hl hck),
    rfl, rfl, rfl, rfl, ?_⟩
  simp [h.cur]

/-- Feeding any other CHECKSUM discards it. -/
theorem exec_asmFeed_checksum_mismatch {s : State} {m : List Field} (h : Collecting s m)
    (hl : legal .checksum s.arg0.toNat = true) (hv : s.arg0.toNat ≠ fieldSum m % 256 + 256) :
    ∃ t, exec (.asmFeed (kindCode .checksum)) s = .next t ∧ t.asm = .idle ∧ t.cur = [] ∧ t.err = .cksum ∧
      t.emit = false ∧ t.msgout = s.msgout ∧ t.ckRx = 0 := by
  have hck := (checksum_matches_iff h hl).not.mpr hv
  exact ⟨_, execAsmFeed_legal hl (asmTransition_inMessage_checksum_mismatch (s := s.startCommand) h.asm hl hck),
    rfl, rfl, rfl, rfl, rfl, rfl⟩

/-! A message fed by the host. -/

theorem Collecting.setArg0 {s : State} {m : List Field} (h : Collecting s m) (v : Word) :
    Collecting (s.setArg0 v) m :=
  ⟨h.asm, h.cur, h.total⟩

theorem legal_data_of_le {n : Nat} (h : n ≤ 255) : legal .data n = true := legal_iff.mpr ⟨Nat.zero_le n, h⟩

theorem legal_packet_of_le {n : Nat} (h : n ≤ 255) : legal .packet n = true := legal_iff.mpr ⟨Nat.zero_le n, h⟩

/-- DATA fields fed one after another are collected, while there is room for them. -/
theorem runFeeds_asmFeed_data {s : State} {m : List Field} (h : Collecting s m) {ds : List Word}
    (hds : ∀ d ∈ ds, d.toNat ≤ 255) (hlen : m.length + ds.length ≤ s.cfg.maxData + 1) :
    ∃ t, runFeeds (ds.map fun d => (Instr.asmFeed 1, d)) s = some t ∧
      Collecting t (m ++ ds.map fun d => mkField .data d.toNat) ∧ t.msgout = s.msgout := by
  induction ds generalizing s m with
  | nil => exact ⟨s, rfl, by simpa using h, rfl⟩
  | cons d ds ih =>
    obtain ⟨hd, hds⟩ := List.forall_mem_cons.mp hds
    rw [List.length_cons] at hlen
    obtain ⟨u, hu, hcollect, hmsg⟩ := exec_asmFeed_data (h.setArg0 d) (legal_data_of_le hd)
      (by rw [State.setArg0_cfg]; omega)
    have hcfg : u.cfg = s.cfg := exec_setArg0_cfg hu
    obtain ⟨t, ht, hcollect, hmsg'⟩ := ih hcollect hds (by simp [hcfg]; omega)
    exact ⟨t, (runFeeds_cons hu _).trans ht, by simpa using hcollect, hmsg'.trans hmsg⟩

/-- The sum of a message of a PACKET and DATA fields. -/
theorem fieldSum_message {p : Nat} {ds : List Nat} (hp : p ≤ 255) (hds : ∀ d ∈ ds, d ≤ 255) :
    fieldSum (mkField .packet p :: ds.map (mkField .data)) = p + ds.sum := by
  have hvalues : (ds.map (mkField .data)).map (fun f => f.value.toNat) = ds := by
    rw [List.map_map]
    exact (List.map_congr_left fun d hd => mkField_value_toNat (legal_data_of_le (hds d hd))).trans (List.map_id ds)
  rw [fieldSum, List.map_cons, List.sum_cons, hvalues, mkField_value_toNat (legal_packet_of_le hp)]

/-- Settles O57: the PACKET opens the message, the DATA fields extend it and the CHECKSUM ends it. -/
theorem fedMessageIsDeliveredOrDiscarded : Obligations.FedMessageIsDeliveredOrDiscarded := by
  intro s p ck ds hs hp hds hlen hlow hhigh
  obtain ⟨a, ha, hopen, hmsg⟩ := exec_asmFeed_packet (s := s.setArg0 p) hs (legal_packet_of_le hp)
  have hcfg : a.cfg = s.cfg := exec_setArg0_cfg ha
  obtain ⟨b, hb, hcollect, hmsg'⟩ := runFeeds_asmFeed_data hopen hds (by rw [hcfg, List.length_singleton]; omega)
  have hsum : fieldSum ([mkField .packet p.toNat] ++ ds.map fun d => mkField .data d.toNat) =
      p.toNat + (ds.map fun d => d.toNat).sum := by
    have hdata : ∀ n ∈ ds.map fun d => d.toNat, n ≤ 255 := by simpa using hds
    simpa [Function.comp_def] using fieldSum_message hp hdata
  have hrun {t : State} (ht : exec (.asmFeed (kindCode .checksum)) (b.setArg0 ck) = .next t) :
      runFeeds ((Instr.asmFeed 0, p) :: ds.map (fun d => (Instr.asmFeed 1, d)) ++ [(Instr.asmFeed 2, ck)]) s =
        some t :=
    (runFeeds_cons ha _).trans ((runFeeds_append hb _).trans (runFeeds_cons ht []))
  have hl : legal .checksum ck.toNat = true := legal_iff.mpr ⟨hlow, hhigh⟩
  rw [← hsum]
  split_ifs with hck
  · obtain ⟨t, ht, herr, hemit, hasm, hcur, hout⟩ := exec_asmFeed_checksum (hcollect.setArg0 ck) hl hck
    exact ⟨t, hrun ht, hasm, hcur, herr, hemit, hout⟩
  · obtain ⟨t, ht, hasm, hcur, herr, hemit, hout, hckRx⟩ :=
      exec_asmFeed_checksum_mismatch (hcollect.setArg0 ck) hl hck
    exact ⟨t, hrun ht, hasm, hcur, herr, hemit, hout.trans (hmsg'.trans hmsg), hckRx⟩

/-! A message received (R260, R262). -/

/-- The valid pulses from RXPTR on are `ps`. -/
structure Unread (s : State) (ps : List Pulse) : Prop where
  pulses : (s.rxbuf.take s.rxlen).drop s.rxptr = ps
  count : s.rxptr + ps.length = s.rxlen

theorem Unread.of_eq {s t : State} {ps : List Pulse} (h : Unread s ps) (hbuf : t.rxbuf = s.rxbuf)
    (hlen : t.rxlen = s.rxlen) (hptr : t.rxptr = s.rxptr) : Unread t ps :=
  ⟨by rw [hbuf, hlen, hptr]; exact h.pulses, by rw [hlen, hptr]; exact h.count⟩

/-- The state in which the host feeds a decoded field to the assembler: the field in RES, RXPTR at its end, its value in
ARG0 (log entry 10). -/
def State.afterDecode (s : State) (k : Kind) (v next : Nat) : State :=
  ((s.startCommand.setRes (fieldWord k v)).advanceRxptr next).setArg0 (BitVec.ofNat 32 v)

/-- RES splits into the kind code and the value (R14). -/
theorem fieldWord_kind {k : Kind} {v : Nat} (h : v < 512) : (fieldWord k v).extractLsb' 16 3 = kindCode k := by
  have hcode := kindCode_toNat_le k
  apply BitVec.eq_of_toNat_eq
  rw [BitVec.extractLsb'_toNat, fieldWord_eq h, BitVec.toNat_ofNat, Nat.shiftRight_eq_div_pow]
  omega

theorem fieldWord_value {k : Kind} {v : Nat} (h : v < 512) :
    ((fieldWord k v).extractLsb' 0 9).setWidth 32 = BitVec.ofNat 32 v := by
  have hcode := kindCode_toNat_le k
  apply BitVec.eq_of_toNat_eq
  rw [BitVec.toNat_setWidth, BitVec.extractLsb'_toNat, fieldWord_eq h, BitVec.toNat_ofNat, BitVec.toNat_ofNat,
    Nat.shiftRight_zero]
  omega

/-- A turn of the receive loop on a field that decodes feeds it to the assembler. -/
theorem receiveField_of_decode {s : State} {k : Kind} {v next : Nat} (hv : v < 512)
    (h : decodeField s.cfg s.rxbuf s.rxlen s.rxptr = .ok ⟨k, v, next⟩) :
    receiveField s = exec (.asmFeed (kindCode k)) (s.afterDecode k v next) := by
  have hdecField := execDecField_ok h
  have hx : exec .decField s = .next ((s.startCommand.setRes (fieldWord k v)).advanceRxptr next) := hdecField
  simp only [receiveField, hx, State.advanceRxptr_err, State.setRes_err, State.startCommand_err, if_true,
    State.advanceRxptr_res, State.setRes_res, fieldWord_kind hv, fieldWord_value hv]
  rfl

/-- No train starts with a sentinel (W1), so a message never does. -/
theorem startsWithSentinel_messageTrain {c : Config} (hc : configWf c = true) (m : List (Kind × Nat)) :
    startsWithSentinel (messageTrain c m) = false := by
  have hpresync : c.tPsM ≠ 0 := (of_decide_eq_true (configWf_iff.mp hc).1).1
  cases m with
  | nil => rfl
  | cons f m => exact isSentinel_eq_false (near_self ⟨c.tPsM, c.tPsS⟩) hpresync

/-- A turn of the receive loop on the first field of a message: it is fed to the assembler, and the rest is unread. -/
theorem receiveField_of_unread {s : State} (hc : configWf s.cfg = true) {k : Kind} {v : Nat} (hl : legal k v = true)
    {m : List (Kind × Nat)} (h : Unread s (messageTrain s.cfg ((k, v) :: m))) :
    ∃ next, receiveField s = exec (.asmFeed (kindCode k)) (s.afterDecode k v next) ∧
      Unread (s.afterDecode k v next) (messageTrain s.cfg m) := by
  have hps : (s.rxbuf.take s.rxlen).drop s.rxptr = encodeField s.cfg k v ++ messageTrain s.cfg m := h.pulses
  have hcount := h.count
  rw [show messageTrain s.cfg ((k, v) :: m) = encodeField s.cfg k v ++ messageTrain s.cfg m from rfl,
    List.length_append] at hcount
  refine ⟨s.rxptr + (encodeField s.cfg k v).length, receiveField_of_decode (legal_lt_512 hl)
    (decodeField_near hc hl hps (forall₂_near_self _) (startsWithSentinel_messageTrain hc m)), ?_, ?_⟩
  · change (s.rxbuf.take s.rxlen).drop (s.rxptr + (encodeField s.cfg k v).length) = _
    rw [← List.drop_drop, hps, List.drop_left]
  · change s.rxptr + (encodeField s.cfg k v).length + _ = s.rxlen
    omega

theorem Unread.asmFeed {s t : State} {ps : List Pulse} (h : Unread s ps) {code : BitVec 3}
    (hx : exec (.asmFeed code) s = .next t) : Unread t ps := by
  obtain ⟨_, _, _, _, hrxptr, _, _⟩ := exec_keeps hx
  exact h.of_eq (by rw [exec_frame hx]) (by rw [exec_frame hx]) (hrxptr rfl)

theorem afterDecode_arg0 (s : State) (k : Kind) {v : Nat} (h : v < 512) (next : Nat) :
    (s.afterDecode k v next).arg0.toNat = v := by
  change (BitVec.ofNat 32 v).toNat = v
  rw [BitVec.toNat_ofNat]
  omega

theorem Collecting.afterDecode {s : State} {m : List Field} (h : Collecting s m) (k : Kind) (v next : Nat) :
    Collecting (s.afterDecode k v next) m :=
  ⟨h.asm, h.cur, h.total⟩

theorem receiveFields_succ {s t : State} (h : receiveField s = .next t) (n : Nat) :
    receiveFields (n + 1) s = receiveFields n t := by
  simp [receiveFields, h]

/-- Inside a message the receive loop collects the DATA fields that follow and delivers the message at its CHECKSUM. -/
theorem receiveFields_data {s : State} (hc : configWf s.cfg = true) {m : List Field} (h : Collecting s m)
    {ds : List Nat} (hds : ∀ d ∈ ds, d ≤ 255) (hlen : m.length + ds.length ≤ s.cfg.maxData + 1) {ck : Nat}
    (hck : ck = (fieldSum m + ds.sum) % 256 + 256)
    (hunread : Unread s (messageTrain s.cfg (ds.map (fun d => (Kind.data, d)) ++ [(Kind.checksum, ck)]))) :
    ∃ t, receiveFields (ds.length + 1) s = some t ∧ t.err = .ok ∧ t.emit = true ∧ t.asm = .idle ∧ t.cur = [] ∧
      t.rxptr = s.rxlen ∧ t.msgout = m ++ ds.map (mkField .data) ++ [mkField .checksum ck] := by
  induction ds generalizing s m with
  | nil =>
    have hl : legal .checksum ck = true := legal_iff.mpr ⟨by simp only [kindLow]; omega, by simp only [kindHigh]; omega⟩
    obtain ⟨next, hturn, hrest⟩ := receiveField_of_unread hc hl hunread
    have harg := afterDecode_arg0 s .checksum (legal_lt_512 hl) next
    obtain ⟨t, ht, herr, hemit, hasm, hcur, hout⟩ :=
      exec_asmFeed_checksum (h.afterDecode .checksum ck next) (by rw [harg]; exact hl) (by rw [harg]; simpa using hck)
    have hend := (hrest.asmFeed ht).count
    rw [harg] at hout
    refine ⟨t, receiveFields_succ (hturn.trans ht) 0, herr, hemit, hasm, hcur, hend.trans ?_, by simpa using hout⟩
    rw [exec_frame ht]
    rfl
  | cons d ds ih =>
    obtain ⟨hd, hds⟩ := List.forall_mem_cons.mp hds
    have hl := legal_data_of_le hd
    rw [List.length_cons] at hlen
    obtain ⟨next, hturn, hrest⟩ := receiveField_of_unread hc hl hunread
    have harg := afterDecode_arg0 s .data (legal_lt_512 hl) next
    obtain ⟨u, hu, hcollect, _⟩ := exec_asmFeed_data (h.afterDecode .data d next) (by rw [harg]; exact hl)
      (show m.length ≤ s.cfg.maxData by omega)
    have hcfg : u.cfg = s.cfg := exec_cfg (s := s.afterDecode .data d next) hu
    have hrxlen : u.rxlen = s.rxlen := by rw [exec_frame hu]; rfl
    rw [harg] at hcollect
    have hsum : fieldSum (m ++ [mkField .data d]) = fieldSum m + d := by rw [fieldSum_append, fieldSum_mkField hl]
    obtain ⟨t, ht, herr, hemit, hasm, hcur, hrxptr, hout⟩ := ih (hcfg ▸ hc) hcollect hds
      (by rw [hcfg, List.length_append, List.length_singleton]; omega)
      (by rw [hck, hsum, List.sum_cons, Nat.add_assoc]) (hcfg ▸ hrest.asmFeed hu)
    exact ⟨t, (receiveFields_succ (hturn.trans hu) _).trans ht, herr, hemit, hasm, hcur, hrxptr.trans hrxlen,
      by simpa using hout⟩

/-- Settles O58: the PACKET's train opens the message, and `receiveFields_data` receives the rest. -/
theorem sentMessageIsReceived : Obligations.SentMessageIsReceived := by
  intro s p ds start ck fields air hc hp hds hlen hs hstart hrxlen hair
  have hl := legal_packet_of_le hp
  have hunread : Unread s (messageTrain s.cfg ((Kind.packet, p) ::
      (ds.map (fun d => (Kind.data, d)) ++ [(Kind.checksum, ck)]))) :=
    ⟨by rw [hstart]; exact hair, by rw [hstart, hrxlen]; rfl⟩
  obtain ⟨next, hturn, hrest⟩ := receiveField_of_unread hc hl hunread
  have harg := afterDecode_arg0 s .packet (legal_lt_512 hl) next
  obtain ⟨u, hu, hopen, _⟩ := exec_asmFeed_packet (s := s.afterDecode .packet p next) hs (by rw [harg]; exact hl)
  have hcfg : u.cfg = s.cfg := exec_cfg (s := s.afterDecode .packet p next) hu
  have hulen : u.rxlen = s.rxlen := by rw [exec_frame hu]; rfl
  rw [harg] at hopen
  obtain ⟨t, ht, herr, hemit, hasm, hcur, hrxptr, hout⟩ := receiveFields_data (hcfg ▸ hc) hopen hds
    (by rw [hcfg, List.length_singleton]; omega) (by rw [fieldSum_mkField hl]) (hcfg ▸ hrest.asmFeed hu)
  refine ⟨t, (receiveFields_succ (hturn.trans hu) _).trans ht, herr, hemit, hasm, hcur, hrxptr.trans hulen, ?_⟩
  simpa [fields, Function.comp_def] using hout

end Sys2Proof.Machine

/-! ## Host programs run by steps: LOADRX (30_encoding.md R131) -/

namespace Sys2Proof.Machine

theorem Reaches.single {s t : State} (h : step s = .next t) : Reaches s t := .tail (.refl s) h

theorem Reaches.trans {s t u : State} (h : Reaches s t) (h' : Reaches t u) : Reaches s u := by
  induction h' with
  | refl => exact h
  | tail _ hstep ih => exact ih.tail hstep

/-- Every register is at a word address (R46). -/
theorem regAddr_mod_four (r : Reg) : regAddr r % 4 = 0 := by
  cases r with
  | txMark i | txSpace i | msgout i | cur i | rxMark i | rxSpace i =>
    simp only [regAddr, rxMarkAddr, rxSpaceAddr]
    omega
  | _ => rfl

/-- `WR <reg>, v` of a register that stores is one step, the store (R130). -/
theorem step_wrAction {s t : State} {r : Reg} {v : Word} {rest : List HostAction} (hc : configWf s.cfg = true)
    (hh : s.host = wrAction r v :: rest) (hr : regMapped s.cfg r = true)
    (hst : storeReg (s.takeAccess rest) r v = some t) : step s = .next t := by
  rw [step_memWrite hc hh]
  exact busWrite_storeReg (regAddr_mod_four r) ((regAt_iff hc).mpr ⟨rfl, hr⟩) hst

/-- Both words of an RXBUF entry stored make up the pulse. -/
theorem modify_mark_space_eq_set (ps : List Pulse) (i : Nat) (p : Pulse) :
    ((ps.modify i ({ · with mark := p.mark })).modify i ({ · with space := p.space })) = ps.set i p := by
  rw [List.modify_modify_eq, List.set_eq_modify]
  rfl

/-- The two writes of one pulse (R131). -/
theorem reaches_wrPulse {s : State} {i : Nat} {p : Pulse} {rest : List HostAction} (hc : configWf s.cfg = true)
    (hi : i < s.cfg.rxCap) (hh : s.host = wrAction (.rxMark i) p.mark :: wrAction (.rxSpace i) p.space :: rest) :
    Reaches s { s with host := rest, hostIndex := s.hostIndex + 2, rxbuf := s.rxbuf.set i p } := by
  rw [← modify_mark_space_eq_set]
  exact (Reaches.single (step_wrAction hc hh (regMapped_rxMark.mpr hi) rfl)).tail
    (step_wrAction hc rfl (regMapped_rxSpace.mpr hi) rfl)

/-- The pulse writes of LOADRX, from index `front.length` on, put the pulses in RXBUF in place of as many old ones. -/
theorem reaches_loadPulses {s : State} (hc : configWf s.cfg = true) {front old back ps : List Pulse}
    (hbuf : s.rxbuf = front ++ old ++ back) (hold : old.length = ps.length) (hcap : s.rxbuf.length = s.cfg.rxCap)
    {rest : List HostAction} (hh : s.host = loadPulses front.length ps ++ rest) :
    Reaches s { s with
      host := rest, hostIndex := s.hostIndex + 2 * ps.length, rxbuf := front ++ ps ++ back } := by
  induction ps generalizing s front old with
  | nil =>
    obtain rfl := List.eq_nil_of_length_eq_zero hold
    obtain rfl : s.host = rest := hh
    rw [← hbuf]
    exact Reaches.refl s
  | cons p ps ih =>
    obtain ⟨o, old, rfl⟩ := List.exists_cons_of_length_eq_add_one hold
    have hlt : front.length < s.cfg.rxCap := by
      rw [← hcap, hbuf]
      simp
    have hset : s.rxbuf.set front.length p = front ++ [p] ++ old ++ back := by simp [hbuf]
    have hhead := reaches_wrPulse hc hlt (rest := loadPulses (front.length + 1) ps ++ rest) hh
    rw [hset] at hhead
    refine hhead.trans ?_
    have htail := ih (s := { s with
        host := loadPulses (front.length + 1) ps ++ rest, hostIndex := s.hostIndex + 2,
        rxbuf := front ++ [p] ++ old ++ back }) (front := front ++ [p]) (old := old) hc rfl (by simpa using hold)
      (by rw [← hcap, hbuf]; simp) (by simp)
    have hindex : s.hostIndex + 2 * (ps.length + 1) = s.hostIndex + 2 + 2 * ps.length := by omega
    have hfront : front ++ p :: ps ++ back = front ++ [p] ++ ps ++ back := by simp
    rw [List.length_cons, hindex, hfront]
    exact htail

/-- Settles O59: the pulses are written, then RXLEN and RXPTR, below RX_CAP and so not clamped. -/
theorem loadRxLoadsThePulses : Obligations.LoadRxLoadsThePulses := by
  intro s ps hc hm hlen hh
  have hbuf := (Memory.wf_iff.mp hm).2
  have hcap := (configWf_capacities hc).2.1
  have hold : (s.rxbuf.take ps.length).length = ps.length := by
    rw [List.length_take]
    omega
  have hload := reaches_loadPulses hc (front := []) (back := s.rxbuf.drop ps.length)
    (List.take_append_drop ps.length s.rxbuf).symm hold hbuf hh
  have hcount : min (BitVec.ofNat 32 ps.length).toNat s.cfg.rxCap = ps.length := by
    rw [BitVec.toNat_ofNat]
    omega
  have hrxlen (t : State) (ht : t.cfg = s.cfg) :
      storeReg t .rxlen (BitVec.ofNat 32 ps.length) = some { t with rxlen := ps.length } := by
    rw [storeReg, State.setRxlen, ht, hcount]
  have hrxptr (t : State) : storeReg t .rxptr 0 = some { t with rxptr := 0 } := by
    rw [storeReg, State.setRxptr]
    simp
  exact (hload.tail (step_wrAction hc rfl rfl (hrxlen _ rfl))).tail (step_wrAction hc rfl rfl (hrxptr _))

end Sys2Proof.Machine

/-! ## A message encoded field by field: the checksum law of the recipe and of the token lines (45_assembler.md R282;
30_encoding.md R131) -/

namespace Sys2Proof.Machine

/-! What ENC_FEED does to CK_TX (R281). -/

theorem exec_encFeed {k : Kind} {s : State} (h : encFeedTakes k s = true) :
    ∃ t, exec (.encFeed (kindCode k)) s = .next t ∧ t.ckTx = encFeedTotal k s :=
  ⟨_, execEncFeed_takes h, rfl⟩

/-- ENC_FEED of a CHECKSUM sends the finalized total of CK_TX, whatever ARG0 holds. -/
theorem exec_encFeed_checksum (s : State) :
    ∃ t, exec (.encFeed (kindCode .checksum)) s = .next t ∧ t.err = .ok ∧
      t.res.toNat = 2 * 65536 + (s.ckTx.toNat % 256 + 256) ∧
      t.txbuf = encodeField s.cfg .checksum (s.ckTx.toNat % 256 + 256) ∧ t.txlen = 13 := by
  have hvalue := encFeedValue_checksum s
  refine ⟨_, execEncFeed_takes (k := .checksum) rfl, ?_, ?_, ?_, ?_⟩
  · simp
  · have hcode : (kindCode .checksum).toNat = 2 := rfl
    rw [State.setRes_res, hvalue, BitVec.toNat_ofNat, hcode]
    omega
  · rw [State.setRes_txbuf, State.loadTrain_txbuf, hvalue, encodeField_length]
    simp [kindWidth, kindTerminating, txCap]
  · rw [State.setRes_txlen, State.loadTrain_txlen, encodeField_length]
    rfl

/-! Commands that keep CK_TX (R282). -/

/-- Feeding the command with its operand leaves CK_TX as it was, from any state. -/
def KeepsCkTx (f : Instr × Word) : Prop := ∀ u t : State, exec f.1 (u.setArg0 f.2) = .next t → t.ckTx = u.ckTx

/-- A kind that takes no part in the checksum keeps the total. -/
theorem encFeedTotal_of_single {k : Kind} (hp : k ≠ .packet) (hd : k ≠ .data) (hck : k ≠ .checksum) (s : State) :
    encFeedTotal k s = s.ckTx := by
  cases k with
  | packet => exact absurd rfl hp
  | data => exact absurd rfl hd
  | checksum => exact absurd rfl hck
  | _ => rfl

theorem exec_ckTx {i : Instr} {s t : State} (h : exec i s = .next t)
    (hi : i ∉ [.ckStart .tx, .ckAcc .tx, .ckFinal .tx, .encFeed 0, .encFeed 1, .encFeed 2]) : t.ckTx = s.ckTx := by
  rcases exec_cases h with ⟨_, _, _, _, _, rfl⟩ | ⟨_, _, rfl⟩ | ⟨_, _, rfl⟩ | ⟨sel, _, rfl | rfl, rfl⟩ |
    ⟨sel, rfl, rfl⟩ | ⟨_, _, _, rfl⟩ | ⟨_, _, _, rfl⟩ | ⟨k, rfl, _, rfl⟩ | ⟨_, _, _, rfl⟩ | ⟨_, _, _, rfl⟩ | ⟨_, rfl⟩
  case inr.inr.inr.inl.inl | inr.inr.inr.inl.inr | inr.inr.inr.inr.inl =>
    cases sel with
    | tx => simp at hi
    | rx => rfl
  case inr.inr.inr.inr.inr.inr.inr.inl =>
    refine encFeedTotal_of_single ?_ ?_ ?_ s
    all_goals
      rintro rfl
      simp [kindCode] at hi
  all_goals simp

theorem runFeeds_keepsCkTx {fs : List (Instr × Word)} (h : ∀ f ∈ fs, KeepsCkTx f) (s : State) :
    ∃ t, runFeeds fs s = some t ∧ t.ckTx = s.ckTx ∧ t.cfg = s.cfg := by
  induction fs generalizing s with
  | nil => exact ⟨s, rfl, rfl, rfl⟩
  | cons f fs ih =>
    obtain ⟨hf, hfs⟩ := List.forall_mem_cons.mp h
    obtain ⟨u, hu⟩ := exec_completes f.1 (s.setArg0 f.2)
    obtain ⟨t, ht, hckTx, hcfg⟩ := ih hfs u
    exact ⟨t, (runFeeds_cons hu fs).trans ht, hckTx.trans (hf s u hu), hcfg.trans (exec_setArg0_cfg hu)⟩

/-- DATA fields, each followed by commands that keep CK_TX, add their sum to it, mod 256. -/
theorem runFeeds_encFeed_data {ds : List (Word × List (Instr × Word))} (hds : ∀ d ∈ ds, d.1.toNat ≤ 255)
    (hkeep : ∀ d ∈ ds, ∀ f ∈ d.2, KeepsCkTx f) (s : State) :
    ∃ t, runFeeds (ds.flatMap fun d => (Instr.encFeed 1, d.1) :: d.2) s = some t ∧ t.cfg = s.cfg ∧
      t.ckTx.toNat % 256 = (s.ckTx.toNat + (ds.map fun d => d.1.toNat).sum) % 256 := by
  induction ds generalizing s with
  | nil => exact ⟨s, rfl, rfl, rfl⟩
  | cons d ds ih =>
    obtain ⟨hd, hds⟩ := List.forall_mem_cons.mp hds
    obtain ⟨hkeepd, hkeep⟩ := List.forall_mem_cons.mp hkeep
    obtain ⟨a, ha, hatotal⟩ := exec_encFeed (k := .data) (s := s.setArg0 d.1) (legal_data_of_le hd)
    obtain ⟨b, hb, hbtotal, hbcfg⟩ := runFeeds_keepsCkTx hkeepd a
    obtain ⟨t, ht, htcfg, httotal⟩ := ih hds hkeep b
    have hsum : b.ckTx = s.ckTx + d.1 := hbtotal.trans hatotal
    refine ⟨t, ?_, htcfg.trans (hbcfg.trans (exec_setArg0_cfg ha)), ?_⟩
    · rw [List.flatMap_cons, List.cons_append]
      exact (runFeeds_cons ha _).trans ((runFeeds_append hb _).trans ht)
    · rw [httotal, hsum, BitVec.toNat_add, List.map_cons, List.sum_cons]
      omega

/-- Settles O54: CK_TX is the PACKET's value, then the sum, and the CHECKSUM is its finalized value. -/
theorem encodeRecipeSendsTheChecksum : Obligations.EncodeRecipeSendsTheChecksum := by
  refine ⟨fun f hf u t h => exec_ckTx (s := u.setArg0 f.2) h hf, fun s p x others ds hp hds hothers hkeep => ?_⟩
  obtain ⟨a, ha, hatotal⟩ := exec_encFeed (k := .packet) (s := s.setArg0 p) (legal_packet_of_le hp)
  obtain ⟨b, hb, hbtotal, hbcfg⟩ := runFeeds_keepsCkTx hothers a
  obtain ⟨u, hu, hucfg, hutotal⟩ := runFeeds_encFeed_data hds hkeep b
  obtain ⟨t, ht, herr, hres, htxbuf, htxlen⟩ := exec_encFeed_checksum (u.setArg0 x)
  have hcfg : u.cfg = s.cfg := hucfg.trans (hbcfg.trans (exec_setArg0_cfg ha))
  have hpacket : b.ckTx = p := hbtotal.trans hatotal
  have htotal : (u.setArg0 x).ckTx.toNat % 256 = (p.toNat + (ds.map fun d => d.1.toNat).sum) % 256 := hpacket ▸ hutotal
  rw [htotal] at hres htxbuf
  refine ⟨t, ?_, herr, hres, hcfg ▸ htxbuf, htxlen⟩
  rw [List.append_assoc, List.cons_append]
  exact (runFeeds_cons ha _).trans ((runFeeds_append hb _).trans ((runFeeds_append hu _).trans (runFeeds_cons ht [])))

/-! Token lines run by steps (R131). -/

/-- The state in which the command of an operand line runs: its operand in ARG0, its word in CMD, the rest of the host's
program to come. -/
def State.atCommand (s : State) (v : Word) (i : Instr) (rest : List HostAction) : State :=
  (((s.takeAccess (commandAction i :: rest)).setArg0 v).takeAccess rest).storeCmd (encode i)

/-- `WR ARG0, v`, then a command: two steps, the second of which runs the command. -/
theorem reaches_operandCommand {s t : State} {v : Word} {i : Instr} {rest : List HostAction}
    (hc : configWf s.cfg = true) (hh : s.host = operandCommand v i ++ rest)
    (hx : exec i (s.atCommand v i rest) = .next t) : Reaches s t := by
  have harg : step s = .next ((s.takeAccess (commandAction i :: rest)).setArg0 v) := step_wrAction hc hh rfl rfl
  have hcmd : step ((s.takeAccess (commandAction i :: rest)).setArg0 v) = exec i (s.atCommand v i rest) :=
    (step_memWrite_cmd (s := (s.takeAccess (commandAction i :: rest)).setArg0 v) hc rfl).trans (runCommand_encode i _)
  exact (Reaches.single harg).tail (hcmd.trans hx)

/-- The token line of a field that ENC_FEED takes. -/
theorem reaches_token {s : State} {k : Kind} {v : Word} {rest : List HostAction} (hc : configWf s.cfg = true)
    (hh : s.host = expandLine (.token k v) ++ rest)
    (h : encFeedTakes k (s.atCommand v (.encFeed (kindCode k)) rest) = true) :
    ∃ t, Reaches s t ∧ t.host = rest ∧ t.cfg = s.cfg ∧
      t.ckTx = encFeedTotal k (s.atCommand v (.encFeed (kindCode k)) rest) := by
  obtain ⟨t, ht, htotal⟩ := exec_encFeed h
  exact ⟨t, reaches_operandCommand hc hh ht, exec_host ht, (exec_cfg ht).trans rfl, htotal⟩

/-- The token lines of DATA fields add their sum to CK_TX, mod 256. -/
theorem reaches_data_tokens {s : State} (hc : configWf s.cfg = true) {ds : List Word} (hds : ∀ d ∈ ds, d.toNat ≤ 255)
    {rest : List HostAction} (hh : s.host = expandLines (ds.map fun d => .token .data d) ++ rest) :
    ∃ t, Reaches s t ∧ t.host = rest ∧ t.cfg = s.cfg ∧
      t.ckTx.toNat % 256 = (s.ckTx.toNat + (ds.map fun d => d.toNat).sum) % 256 := by
  induction ds generalizing s with
  | nil => exact ⟨s, .refl s, hh, rfl, rfl⟩
  | cons d ds ih =>
    obtain ⟨hd, hds⟩ := List.forall_mem_cons.mp hds
    rw [List.map_cons, expandLines, List.flatMap_cons, List.append_assoc] at hh
    obtain ⟨a, ha, hahost, hacfg, hatotal⟩ := reaches_token hc hh (legal_data_of_le hd)
    obtain ⟨t, ht, hthost, htcfg, httotal⟩ := ih (hacfg ▸ hc) hds hahost
    have hsum : a.ckTx = s.ckTx + d := hatotal
    refine ⟨t, ha.trans ht, hthost, htcfg.trans hacfg, ?_⟩
    rw [httotal, hsum, BitVec.toNat_add, List.map_cons, List.sum_cons]
    omega

/-- Settles O60: the accesses of the three kinds of lines, run in turn. -/
theorem tokensSendTheComputedChecksum : Obligations.TokensSendTheComputedChecksum := by
  intro s p x ds hc hp hds hh
  rw [List.cons_append, expandLines, List.flatMap_cons, List.flatMap_append] at hh
  obtain ⟨a, ha, hahost, hacfg, hatotal⟩ := reaches_token hc hh (legal_packet_of_le hp)
  obtain ⟨b, hb, hbhost, hbcfg, hbtotal⟩ := reaches_data_tokens (hacfg ▸ hc) hds hahost
  have hcfg : b.cfg = s.cfg := hbcfg.trans hacfg
  obtain ⟨t, ht, herr, _, htxbuf, htxlen⟩ := exec_encFeed_checksum (b.atCommand x (.encFeed (kindCode .checksum)) [])
  have hpacket : a.ckTx = p := hatotal
  have htotal : b.ckTx.toNat % 256 = (p.toNat + (ds.map fun d => d.toNat).sum) % 256 := hpacket ▸ hbtotal
  refine ⟨t, (ha.trans hb).trans (reaches_operandCommand (hcfg ▸ hc) hbhost ht), exec_host ht, herr, ?_, htxlen⟩
  rw [← htotal, ← hcfg]
  exact htxbuf

end Sys2Proof.Machine
